-- ==== Sys2Proof/Word.lean ====
section
/-! DEFINITION. The word types of the block (spec/00_scope.md rules R6 and R8): one name per width the spec uses.
Values of these types wrap modulo 2 to their width, as R8 says of every register and address. -/

namespace Sys2Proof

/-- `u8`: a register, a data byte (R6, R8). -/
abbrev Byte := BitVec 8

/-- `u16`: a CPU address, the program counter (R6, R8). -/
abbrev Word := BitVec 16

/-- An address on the PPU's own bus, already reduced to 14 bits (R89). -/
abbrev PpuAddr := BitVec 14

/-- A loopy register, `v` or `t`: 15 bits (R37). -/
abbrev Loopy := BitVec 15

/-- One cell of the picture: a 6-bit palette colour index (R45). -/
abbrev Colour := BitVec 6

end Sys2Proof
end

