-- ==== Sys2Proof/Syntax.lean ====
section
/-! DEFINITION. The instruction set as syntax: the twelve addressing modes with their operand bytes (spec/30_encoding.md
rules R121, R122), and one constructor of `Instr` per row of spec/opcode_table.json, in the table's order (R124). -/

namespace Sys2Proof

/-- The addressing modes (R16, R121). -/
inductive Mode where
  | imp | imm | zp0 | zpx | zpy | rel | abs | abx | aby | ind | izx | izy
deriving DecidableEq, Repr

/-- The three classes of opcode values (R127). -/
inductive OpClass where
  | official
  | unofficialNop
  | filler
deriving DecidableEq, Repr

/-- A mode together with its operand (R121, R122). A branch offset is the signed number its byte stands for. -/
inductive Operand where
  | imp
  | imm (b : Byte)
  | zp0 (z : Byte)
  | zpx (z : Byte)
  | zpy (z : Byte)
  | rel (r : Int)
  | abs (a : Word)
  | abx (a : Word)
  | aby (a : Word)
  | ind (a : Word)
  | izx (z : Byte)
  | izy (z : Byte)
deriving DecidableEq, Repr

/-- The mode of an operand. -/
def Operand.mode : Operand → Mode
  | .imp => .imp
  | .imm _ => .imm
  | .zp0 _ => .zp0
  | .zpx _ => .zpx
  | .zpy _ => .zpy
  | .rel _ => .rel
  | .abs _ => .abs
  | .abx _ => .abx
  | .aby _ => .aby
  | .ind _ => .ind
  | .izx _ => .izx
  | .izy _ => .izy

/-- The instructions: one constructor per opcode value 0x00 to 0xFF. The name is the mnemonic and the addressing mode (nothing
where the mnemonic has one row, `Acc` for an accumulator form); the unofficial NOPs and the fillers end in their opcode value.
The docstring of each meaning names its row. The constructors with an operand stand first, each group in the table's
order (Lean's compiler gives at most 245 constructors that carry data). -/
inductive Instr where
  | oraIzx (z : Byte)
  | nopZp004 (z : Byte)
  | oraZp0 (z : Byte)
  | aslZp0 (z : Byte)
  | oraImm (b : Byte)
  | nopAbs0C (a : Word)
  | oraAbs (a : Word)
  | aslAbs (a : Word)
  | bpl (r : Int)
  | oraIzy (z : Byte)
  | nopZpx14 (z : Byte)
  | oraZpx (z : Byte)
  | aslZpx (z : Byte)
  | oraAby (a : Word)
  | nopAbx1C (a : Word)
  | oraAbx (a : Word)
  | aslAbx (a : Word)
  | jsr (a : Word)
  | andIzx (z : Byte)
  | bitZp0 (z : Byte)
  | andZp0 (z : Byte)
  | rolZp0 (z : Byte)
  | andImm (b : Byte)
  | bitAbs (a : Word)
  | andAbs (a : Word)
  | rolAbs (a : Word)
  | bmi (r : Int)
  | andIzy (z : Byte)
  | nopZpx34 (z : Byte)
  | andZpx (z : Byte)
  | rolZpx (z : Byte)
  | andAby (a : Word)
  | nopAbx3C (a : Word)
  | andAbx (a : Word)
  | rolAbx (a : Word)
  | eorIzx (z : Byte)
  | nopZp044 (z : Byte)
  | eorZp0 (z : Byte)
  | lsrZp0 (z : Byte)
  | eorImm (b : Byte)
  | jmpAbs (a : Word)
  | eorAbs (a : Word)
  | lsrAbs (a : Word)
  | bvc (r : Int)
  | eorIzy (z : Byte)
  | nopZpx54 (z : Byte)
  | eorZpx (z : Byte)
  | lsrZpx (z : Byte)
  | eorAby (a : Word)
  | nopAbx5C (a : Word)
  | eorAbx (a : Word)
  | lsrAbx (a : Word)
  | adcIzx (z : Byte)
  | nopZp064 (z : Byte)
  | adcZp0 (z : Byte)
  | rorZp0 (z : Byte)
  | adcImm (b : Byte)
  | jmpInd (a : Word)
  | adcAbs (a : Word)
  | rorAbs (a : Word)
  | bvs (r : Int)
  | adcIzy (z : Byte)
  | nopZpx74 (z : Byte)
  | adcZpx (z : Byte)
  | rorZpx (z : Byte)
  | adcAby (a : Word)
  | nopAbx7C (a : Word)
  | adcAbx (a : Word)
  | rorAbx (a : Word)
  | nopImm80 (b : Byte)
  | staIzx (z : Byte)
  | nopImm82 (b : Byte)
  | styZp0 (z : Byte)
  | staZp0 (z : Byte)
  | stxZp0 (z : Byte)
  | nopImm89 (b : Byte)
  | styAbs (a : Word)
  | staAbs (a : Word)
  | stxAbs (a : Word)
  | bcc (r : Int)
  | staIzy (z : Byte)
  | styZpx (z : Byte)
  | staZpx (z : Byte)
  | stxZpy (z : Byte)
  | staAby (a : Word)
  | staAbx (a : Word)
  | ldyImm (b : Byte)
  | ldaIzx (z : Byte)
  | ldxImm (b : Byte)
  | ldyZp0 (z : Byte)
  | ldaZp0 (z : Byte)
  | ldxZp0 (z : Byte)
  | ldaImm (b : Byte)
  | ldyAbs (a : Word)
  | ldaAbs (a : Word)
  | ldxAbs (a : Word)
  | bcs (r : Int)
  | ldaIzy (z : Byte)
  | ldyZpx (z : Byte)
  | ldaZpx (z : Byte)
  | ldxZpy (z : Byte)
  | ldaAby (a : Word)
  | ldyAbx (a : Word)
  | ldaAbx (a : Word)
  | ldxAby (a : Word)
  | cpyImm (b : Byte)
  | cmpIzx (z : Byte)
  | nopImmC2 (b : Byte)
  | cpyZp0 (z : Byte)
  | cmpZp0 (z : Byte)
  | decZp0 (z : Byte)
  | cmpImm (b : Byte)
  | cpyAbs (a : Word)
  | cmpAbs (a : Word)
  | decAbs (a : Word)
  | bne (r : Int)
  | cmpIzy (z : Byte)
  | nopZpxD4 (z : Byte)
  | cmpZpx (z : Byte)
  | decZpx (z : Byte)
  | cmpAby (a : Word)
  | nopAbxDC (a : Word)
  | cmpAbx (a : Word)
  | decAbx (a : Word)
  | cpxImm (b : Byte)
  | sbcIzx (z : Byte)
  | nopImmE2 (b : Byte)
  | cpxZp0 (z : Byte)
  | sbcZp0 (z : Byte)
  | incZp0 (z : Byte)
  | sbcImm (b : Byte)
  | cpxAbs (a : Word)
  | sbcAbs (a : Word)
  | incAbs (a : Word)
  | beq (r : Int)
  | sbcIzy (z : Byte)
  | nopZpxF4 (z : Byte)
  | sbcZpx (z : Byte)
  | incZpx (z : Byte)
  | sbcAby (a : Word)
  | nopAbxFC (a : Word)
  | sbcAbx (a : Word)
  | incAbx (a : Word)
  | brk
  | filler02
  | filler03
  | filler07
  | php
  | aslAcc
  | filler0B
  | filler0F
  | filler12
  | filler13
  | filler17
  | clc
  | nopImp1A
  | filler1B
  | filler1F
  | filler22
  | filler23
  | filler27
  | plp
  | rolAcc
  | filler2B
  | filler2F
  | filler32
  | filler33
  | filler37
  | sec
  | nopImp3A
  | filler3B
  | filler3F
  | rti
  | filler42
  | filler43
  | filler47
  | pha
  | lsrAcc
  | filler4B
  | filler4F
  | filler52
  | filler53
  | filler57
  | cli
  | nopImp5A
  | filler5B
  | filler5F
  | rts
  | filler62
  | filler63
  | filler67
  | pla
  | rorAcc
  | filler6B
  | filler6F
  | filler72
  | filler73
  | filler77
  | sei
  | nopImp7A
  | filler7B
  | filler7F
  | filler83
  | filler87
  | dey
  | txa
  | filler8B
  | filler8F
  | filler92
  | filler93
  | filler97
  | tya
  | txs
  | filler9B
  | filler9C
  | filler9E
  | filler9F
  | fillerA3
  | fillerA7
  | tay
  | tax
  | fillerAB
  | fillerAF
  | fillerB2
  | fillerB3
  | fillerB7
  | clv
  | tsx
  | fillerBB
  | fillerBF
  | fillerC3
  | fillerC7
  | iny
  | dex
  | fillerCB
  | fillerCF
  | fillerD2
  | fillerD3
  | fillerD7
  | cld
  | nopImpDA
  | fillerDB
  | fillerDF
  | fillerE3
  | fillerE7
  | inx
  | nop
  | fillerEB
  | fillerEF
  | fillerF2
  | fillerF3
  | fillerF7
  | sed
  | nopImpFA
  | fillerFB
  | fillerFF
deriving DecidableEq, Repr

end Sys2Proof
end

