-- ==== Sys2Proof/WellFormed.lean ====
section
/-! DEFINITION. Well-formed instructions. Operand bytes and words have their width in their type; the one operand that can be out
of range is a branch offset, "which must lie in -128..127" (spec/30_encoding.md rule R128). -/

namespace Sys2Proof

/-- The range of a branch offset (R122, R128). -/
def offsetFits (r : Int) : Bool := decide (-128 ≤ r) && decide (r ≤ 127)

/-- The operand can be encoded. -/
def Operand.wf : Operand → Bool
  | .rel r => offsetFits r
  | .imp | .imm _ | .zp0 _ | .zpx _ | .zpy _ | .abs _ | .abx _ | .aby _ | .ind _ | .izx _ | .izy _ => true

/-- The instruction can be encoded: its branch offset, if it has one, is in range. -/
def Instr.wf (i : Instr) : Bool :=
  match i with
  | .bpl r => offsetFits r
  | .bmi r => offsetFits r
  | .bvc r => offsetFits r
  | .bvs r => offsetFits r
  | .bcc r => offsetFits r
  | .bcs r => offsetFits r
  | .bne r => offsetFits r
  | .beq r => offsetFits r
  | .brk | .oraIzx _ | .filler02 | .filler03 | .nopZp004 _ | .oraZp0 _ | .aslZp0 _ | .filler07 | .php | .oraImm _
  | .aslAcc | .filler0B | .nopAbs0C _ | .oraAbs _ | .aslAbs _ | .filler0F | .oraIzy _ | .filler12 | .filler13
  | .nopZpx14 _ | .oraZpx _ | .aslZpx _ | .filler17 | .clc | .oraAby _ | .nopImp1A | .filler1B | .nopAbx1C _
  | .oraAbx _ | .aslAbx _ | .filler1F | .jsr _ | .andIzx _ | .filler22 | .filler23 | .bitZp0 _ | .andZp0 _
  | .rolZp0 _ | .filler27 | .plp | .andImm _ | .rolAcc | .filler2B | .bitAbs _ | .andAbs _ | .rolAbs _ | .filler2F
  | .andIzy _ | .filler32 | .filler33 | .nopZpx34 _ | .andZpx _ | .rolZpx _ | .filler37 | .sec | .andAby _
  | .nopImp3A | .filler3B | .nopAbx3C _ | .andAbx _ | .rolAbx _ | .filler3F | .rti | .eorIzx _ | .filler42
  | .filler43 | .nopZp044 _ | .eorZp0 _ | .lsrZp0 _ | .filler47 | .pha | .eorImm _ | .lsrAcc | .filler4B | .jmpAbs _
  | .eorAbs _ | .lsrAbs _ | .filler4F | .eorIzy _ | .filler52 | .filler53 | .nopZpx54 _ | .eorZpx _ | .lsrZpx _
  | .filler57 | .cli | .eorAby _ | .nopImp5A | .filler5B | .nopAbx5C _ | .eorAbx _ | .lsrAbx _ | .filler5F | .rts
  | .adcIzx _ | .filler62 | .filler63 | .nopZp064 _ | .adcZp0 _ | .rorZp0 _ | .filler67 | .pla | .adcImm _ | .rorAcc
  | .filler6B | .jmpInd _ | .adcAbs _ | .rorAbs _ | .filler6F | .adcIzy _ | .filler72 | .filler73 | .nopZpx74 _
  | .adcZpx _ | .rorZpx _ | .filler77 | .sei | .adcAby _ | .nopImp7A | .filler7B | .nopAbx7C _ | .adcAbx _
  | .rorAbx _ | .filler7F | .nopImm80 _ | .staIzx _ | .nopImm82 _ | .filler83 | .styZp0 _ | .staZp0 _ | .stxZp0 _
  | .filler87 | .dey | .nopImm89 _ | .txa | .filler8B | .styAbs _ | .staAbs _ | .stxAbs _ | .filler8F | .staIzy _
  | .filler92 | .filler93 | .styZpx _ | .staZpx _ | .stxZpy _ | .filler97 | .tya | .staAby _ | .txs | .filler9B
  | .filler9C | .staAbx _ | .filler9E | .filler9F | .ldyImm _ | .ldaIzx _ | .ldxImm _ | .fillerA3 | .ldyZp0 _
  | .ldaZp0 _ | .ldxZp0 _ | .fillerA7 | .tay | .ldaImm _ | .tax | .fillerAB | .ldyAbs _ | .ldaAbs _ | .ldxAbs _
  | .fillerAF | .ldaIzy _ | .fillerB2 | .fillerB3 | .ldyZpx _ | .ldaZpx _ | .ldxZpy _ | .fillerB7 | .clv | .ldaAby _
  | .tsx | .fillerBB | .ldyAbx _ | .ldaAbx _ | .ldxAby _ | .fillerBF | .cpyImm _ | .cmpIzx _ | .nopImmC2 _
  | .fillerC3 | .cpyZp0 _ | .cmpZp0 _ | .decZp0 _ | .fillerC7 | .iny | .cmpImm _ | .dex | .fillerCB | .cpyAbs _
  | .cmpAbs _ | .decAbs _ | .fillerCF | .cmpIzy _ | .fillerD2 | .fillerD3 | .nopZpxD4 _ | .cmpZpx _ | .decZpx _
  | .fillerD7 | .cld | .cmpAby _ | .nopImpDA | .fillerDB | .nopAbxDC _ | .cmpAbx _ | .decAbx _ | .fillerDF
  | .cpxImm _ | .sbcIzx _ | .nopImmE2 _ | .fillerE3 | .cpxZp0 _ | .sbcZp0 _ | .incZp0 _ | .fillerE7 | .inx
  | .sbcImm _ | .nop | .fillerEB | .cpxAbs _ | .sbcAbs _ | .incAbs _ | .fillerEF | .sbcIzy _ | .fillerF2 | .fillerF3
  | .nopZpxF4 _ | .sbcZpx _ | .incZpx _ | .fillerF7 | .sed | .sbcAby _ | .nopImpFA | .fillerFB | .nopAbxFC _
  | .sbcAbx _ | .incAbx _ | .fillerFF => true

end Sys2Proof
end

