-- ==== Sys2Proof/Decode.lean ====
section
/-! DEFINITION. The opcode table (spec/30_encoding.md rules R123 to R127), the decoder read from it, and the encoder. -/

namespace Sys2Proof

/-- How a row's instruction is made from its operand bytes (R121, R122). -/
inductive Build where
  | implied (i : Instr)
  | byte (f : Byte → Instr)
  | offset (f : Int → Instr)
  | word (f : Word → Instr)

/-- One row of the opcode table (R123, R126). `pageExtra` says that a page crossing can add a cycle (R125). -/
structure Row where
  mnemonic : String
  mode : Mode
  cycles : Nat
  pageExtra : Bool
  cls : OpClass
  build : Build

/-- The instruction length of a mode (R121). -/
def Mode.length : Mode → Nat
  | .imp => 1
  | .imm | .zp0 | .zpx | .zpy | .rel | .izx | .izy => 2
  | .abs | .abx | .aby | .ind => 3

/-- The number of operand bytes of a way to build. -/
def Build.operandBytes : Build → Nat
  | .implied _ => 0
  | .byte _ | .offset _ => 1
  | .word _ => 2

/-- Opcodes 0x00 to 0x0F (R124). -/
def rows0 : List Row := [
  ⟨"BRK", .imp, 7, false, .official, .implied .brk⟩,
  ⟨"ORA", .izx, 6, false, .official, .byte .oraIzx⟩,
  ⟨"FILLER", .imp, 2, false, .filler, .implied .filler02⟩,
  ⟨"FILLER", .imp, 8, false, .filler, .implied .filler03⟩,
  ⟨"NOP", .zp0, 3, false, .unofficialNop, .byte .nopZp004⟩,
  ⟨"ORA", .zp0, 3, false, .official, .byte .oraZp0⟩,
  ⟨"ASL", .zp0, 5, false, .official, .byte .aslZp0⟩,
  ⟨"FILLER", .imp, 5, false, .filler, .implied .filler07⟩,
  ⟨"PHP", .imp, 3, false, .official, .implied .php⟩,
  ⟨"ORA", .imm, 2, false, .official, .byte .oraImm⟩,
  ⟨"ASL", .imp, 2, false, .official, .implied .aslAcc⟩,
  ⟨"FILLER", .imp, 2, false, .filler, .implied .filler0B⟩,
  ⟨"NOP", .abs, 4, false, .unofficialNop, .word .nopAbs0C⟩,
  ⟨"ORA", .abs, 4, false, .official, .word .oraAbs⟩,
  ⟨"ASL", .abs, 6, false, .official, .word .aslAbs⟩,
  ⟨"FILLER", .imp, 6, false, .filler, .implied .filler0F⟩]

/-- Opcodes 0x10 to 0x1F (R124). -/
def rows1 : List Row := [
  ⟨"BPL", .rel, 2, false, .official, .offset .bpl⟩,
  ⟨"ORA", .izy, 5, true, .official, .byte .oraIzy⟩,
  ⟨"FILLER", .imp, 2, false, .filler, .implied .filler12⟩,
  ⟨"FILLER", .imp, 8, false, .filler, .implied .filler13⟩,
  ⟨"NOP", .zpx, 4, false, .unofficialNop, .byte .nopZpx14⟩,
  ⟨"ORA", .zpx, 4, false, .official, .byte .oraZpx⟩,
  ⟨"ASL", .zpx, 6, false, .official, .byte .aslZpx⟩,
  ⟨"FILLER", .imp, 6, false, .filler, .implied .filler17⟩,
  ⟨"CLC", .imp, 2, false, .official, .implied .clc⟩,
  ⟨"ORA", .aby, 4, true, .official, .word .oraAby⟩,
  ⟨"NOP", .imp, 2, false, .unofficialNop, .implied .nopImp1A⟩,
  ⟨"FILLER", .imp, 7, false, .filler, .implied .filler1B⟩,
  ⟨"NOP", .abx, 4, true, .unofficialNop, .word .nopAbx1C⟩,
  ⟨"ORA", .abx, 4, true, .official, .word .oraAbx⟩,
  ⟨"ASL", .abx, 7, false, .official, .word .aslAbx⟩,
  ⟨"FILLER", .imp, 7, false, .filler, .implied .filler1F⟩]

/-- Opcodes 0x20 to 0x2F (R124). -/
def rows2 : List Row := [
  ⟨"JSR", .abs, 6, false, .official, .word .jsr⟩,
  ⟨"AND", .izx, 6, false, .official, .byte .andIzx⟩,
  ⟨"FILLER", .imp, 2, false, .filler, .implied .filler22⟩,
  ⟨"FILLER", .imp, 8, false, .filler, .implied .filler23⟩,
  ⟨"BIT", .zp0, 3, false, .official, .byte .bitZp0⟩,
  ⟨"AND", .zp0, 3, false, .official, .byte .andZp0⟩,
  ⟨"ROL", .zp0, 5, false, .official, .byte .rolZp0⟩,
  ⟨"FILLER", .imp, 5, false, .filler, .implied .filler27⟩,
  ⟨"PLP", .imp, 4, false, .official, .implied .plp⟩,
  ⟨"AND", .imm, 2, false, .official, .byte .andImm⟩,
  ⟨"ROL", .imp, 2, false, .official, .implied .rolAcc⟩,
  ⟨"FILLER", .imp, 2, false, .filler, .implied .filler2B⟩,
  ⟨"BIT", .abs, 4, false, .official, .word .bitAbs⟩,
  ⟨"AND", .abs, 4, false, .official, .word .andAbs⟩,
  ⟨"ROL", .abs, 6, false, .official, .word .rolAbs⟩,
  ⟨"FILLER", .imp, 6, false, .filler, .implied .filler2F⟩]

/-- Opcodes 0x30 to 0x3F (R124). -/
def rows3 : List Row := [
  ⟨"BMI", .rel, 2, false, .official, .offset .bmi⟩,
  ⟨"AND", .izy, 5, true, .official, .byte .andIzy⟩,
  ⟨"FILLER", .imp, 2, false, .filler, .implied .filler32⟩,
  ⟨"FILLER", .imp, 8, false, .filler, .implied .filler33⟩,
  ⟨"NOP", .zpx, 4, false, .unofficialNop, .byte .nopZpx34⟩,
  ⟨"AND", .zpx, 4, false, .official, .byte .andZpx⟩,
  ⟨"ROL", .zpx, 6, false, .official, .byte .rolZpx⟩,
  ⟨"FILLER", .imp, 6, false, .filler, .implied .filler37⟩,
  ⟨"SEC", .imp, 2, false, .official, .implied .sec⟩,
  ⟨"AND", .aby, 4, true, .official, .word .andAby⟩,
  ⟨"NOP", .imp, 2, false, .unofficialNop, .implied .nopImp3A⟩,
  ⟨"FILLER", .imp, 7, false, .filler, .implied .filler3B⟩,
  ⟨"NOP", .abx, 4, true, .unofficialNop, .word .nopAbx3C⟩,
  ⟨"AND", .abx, 4, true, .official, .word .andAbx⟩,
  ⟨"ROL", .abx, 7, false, .official, .word .rolAbx⟩,
  ⟨"FILLER", .imp, 7, false, .filler, .implied .filler3F⟩]

/-- Opcodes 0x40 to 0x4F (R124). -/
def rows4 : List Row := [
  ⟨"RTI", .imp, 6, false, .official, .implied .rti⟩,
  ⟨"EOR", .izx, 6, false, .official, .byte .eorIzx⟩,
  ⟨"FILLER", .imp, 2, false, .filler, .implied .filler42⟩,
  ⟨"FILLER", .imp, 8, false, .filler, .implied .filler43⟩,
  ⟨"NOP", .zp0, 3, false, .unofficialNop, .byte .nopZp044⟩,
  ⟨"EOR", .zp0, 3, false, .official, .byte .eorZp0⟩,
  ⟨"LSR", .zp0, 5, false, .official, .byte .lsrZp0⟩,
  ⟨"FILLER", .imp, 5, false, .filler, .implied .filler47⟩,
  ⟨"PHA", .imp, 3, false, .official, .implied .pha⟩,
  ⟨"EOR", .imm, 2, false, .official, .byte .eorImm⟩,
  ⟨"LSR", .imp, 2, false, .official, .implied .lsrAcc⟩,
  ⟨"FILLER", .imp, 2, false, .filler, .implied .filler4B⟩,
  ⟨"JMP", .abs, 3, false, .official, .word .jmpAbs⟩,
  ⟨"EOR", .abs, 4, false, .official, .word .eorAbs⟩,
  ⟨"LSR", .abs, 6, false, .official, .word .lsrAbs⟩,
  ⟨"FILLER", .imp, 6, false, .filler, .implied .filler4F⟩]

/-- Opcodes 0x50 to 0x5F (R124). -/
def rows5 : List Row := [
  ⟨"BVC", .rel, 2, false, .official, .offset .bvc⟩,
  ⟨"EOR", .izy, 5, true, .official, .byte .eorIzy⟩,
  ⟨"FILLER", .imp, 2, false, .filler, .implied .filler52⟩,
  ⟨"FILLER", .imp, 8, false, .filler, .implied .filler53⟩,
  ⟨"NOP", .zpx, 4, false, .unofficialNop, .byte .nopZpx54⟩,
  ⟨"EOR", .zpx, 4, false, .official, .byte .eorZpx⟩,
  ⟨"LSR", .zpx, 6, false, .official, .byte .lsrZpx⟩,
  ⟨"FILLER", .imp, 6, false, .filler, .implied .filler57⟩,
  ⟨"CLI", .imp, 2, false, .official, .implied .cli⟩,
  ⟨"EOR", .aby, 4, true, .official, .word .eorAby⟩,
  ⟨"NOP", .imp, 2, false, .unofficialNop, .implied .nopImp5A⟩,
  ⟨"FILLER", .imp, 7, false, .filler, .implied .filler5B⟩,
  ⟨"NOP", .abx, 4, true, .unofficialNop, .word .nopAbx5C⟩,
  ⟨"EOR", .abx, 4, true, .official, .word .eorAbx⟩,
  ⟨"LSR", .abx, 7, false, .official, .word .lsrAbx⟩,
  ⟨"FILLER", .imp, 7, false, .filler, .implied .filler5F⟩]

/-- Opcodes 0x60 to 0x6F (R124). -/
def rows6 : List Row := [
  ⟨"RTS", .imp, 6, false, .official, .implied .rts⟩,
  ⟨"ADC", .izx, 6, false, .official, .byte .adcIzx⟩,
  ⟨"FILLER", .imp, 2, false, .filler, .implied .filler62⟩,
  ⟨"FILLER", .imp, 8, false, .filler, .implied .filler63⟩,
  ⟨"NOP", .zp0, 3, false, .unofficialNop, .byte .nopZp064⟩,
  ⟨"ADC", .zp0, 3, false, .official, .byte .adcZp0⟩,
  ⟨"ROR", .zp0, 5, false, .official, .byte .rorZp0⟩,
  ⟨"FILLER", .imp, 5, false, .filler, .implied .filler67⟩,
  ⟨"PLA", .imp, 4, false, .official, .implied .pla⟩,
  ⟨"ADC", .imm, 2, false, .official, .byte .adcImm⟩,
  ⟨"ROR", .imp, 2, false, .official, .implied .rorAcc⟩,
  ⟨"FILLER", .imp, 2, false, .filler, .implied .filler6B⟩,
  ⟨"JMP", .ind, 5, false, .official, .word .jmpInd⟩,
  ⟨"ADC", .abs, 4, false, .official, .word .adcAbs⟩,
  ⟨"ROR", .abs, 6, false, .official, .word .rorAbs⟩,
  ⟨"FILLER", .imp, 6, false, .filler, .implied .filler6F⟩]

/-- Opcodes 0x70 to 0x7F (R124). -/
def rows7 : List Row := [
  ⟨"BVS", .rel, 2, false, .official, .offset .bvs⟩,
  ⟨"ADC", .izy, 5, true, .official, .byte .adcIzy⟩,
  ⟨"FILLER", .imp, 2, false, .filler, .implied .filler72⟩,
  ⟨"FILLER", .imp, 8, false, .filler, .implied .filler73⟩,
  ⟨"NOP", .zpx, 4, false, .unofficialNop, .byte .nopZpx74⟩,
  ⟨"ADC", .zpx, 4, false, .official, .byte .adcZpx⟩,
  ⟨"ROR", .zpx, 6, false, .official, .byte .rorZpx⟩,
  ⟨"FILLER", .imp, 6, false, .filler, .implied .filler77⟩,
  ⟨"SEI", .imp, 2, false, .official, .implied .sei⟩,
  ⟨"ADC", .aby, 4, true, .official, .word .adcAby⟩,
  ⟨"NOP", .imp, 2, false, .unofficialNop, .implied .nopImp7A⟩,
  ⟨"FILLER", .imp, 7, false, .filler, .implied .filler7B⟩,
  ⟨"NOP", .abx, 4, true, .unofficialNop, .word .nopAbx7C⟩,
  ⟨"ADC", .abx, 4, true, .official, .word .adcAbx⟩,
  ⟨"ROR", .abx, 7, false, .official, .word .rorAbx⟩,
  ⟨"FILLER", .imp, 7, false, .filler, .implied .filler7F⟩]

/-- Opcodes 0x80 to 0x8F (R124). -/
def rows8 : List Row := [
  ⟨"NOP", .imm, 2, false, .unofficialNop, .byte .nopImm80⟩,
  ⟨"STA", .izx, 6, false, .official, .byte .staIzx⟩,
  ⟨"NOP", .imm, 2, false, .unofficialNop, .byte .nopImm82⟩,
  ⟨"FILLER", .imp, 6, false, .filler, .implied .filler83⟩,
  ⟨"STY", .zp0, 3, false, .official, .byte .styZp0⟩,
  ⟨"STA", .zp0, 3, false, .official, .byte .staZp0⟩,
  ⟨"STX", .zp0, 3, false, .official, .byte .stxZp0⟩,
  ⟨"FILLER", .imp, 3, false, .filler, .implied .filler87⟩,
  ⟨"DEY", .imp, 2, false, .official, .implied .dey⟩,
  ⟨"NOP", .imm, 2, false, .unofficialNop, .byte .nopImm89⟩,
  ⟨"TXA", .imp, 2, false, .official, .implied .txa⟩,
  ⟨"FILLER", .imp, 2, false, .filler, .implied .filler8B⟩,
  ⟨"STY", .abs, 4, false, .official, .word .styAbs⟩,
  ⟨"STA", .abs, 4, false, .official, .word .staAbs⟩,
  ⟨"STX", .abs, 4, false, .official, .word .stxAbs⟩,
  ⟨"FILLER", .imp, 4, false, .filler, .implied .filler8F⟩]

/-- Opcodes 0x90 to 0x9F (R124). -/
def rows9 : List Row := [
  ⟨"BCC", .rel, 2, false, .official, .offset .bcc⟩,
  ⟨"STA", .izy, 6, false, .official, .byte .staIzy⟩,
  ⟨"FILLER", .imp, 2, false, .filler, .implied .filler92⟩,
  ⟨"FILLER", .imp, 6, false, .filler, .implied .filler93⟩,
  ⟨"STY", .zpx, 4, false, .official, .byte .styZpx⟩,
  ⟨"STA", .zpx, 4, false, .official, .byte .staZpx⟩,
  ⟨"STX", .zpy, 4, false, .official, .byte .stxZpy⟩,
  ⟨"FILLER", .imp, 4, false, .filler, .implied .filler97⟩,
  ⟨"TYA", .imp, 2, false, .official, .implied .tya⟩,
  ⟨"STA", .aby, 5, false, .official, .word .staAby⟩,
  ⟨"TXS", .imp, 2, false, .official, .implied .txs⟩,
  ⟨"FILLER", .imp, 5, false, .filler, .implied .filler9B⟩,
  ⟨"FILLER", .imp, 5, false, .filler, .implied .filler9C⟩,
  ⟨"STA", .abx, 5, false, .official, .word .staAbx⟩,
  ⟨"FILLER", .imp, 5, false, .filler, .implied .filler9E⟩,
  ⟨"FILLER", .imp, 5, false, .filler, .implied .filler9F⟩]

/-- Opcodes 0xA0 to 0xAF (R124). -/
def rowsA : List Row := [
  ⟨"LDY", .imm, 2, false, .official, .byte .ldyImm⟩,
  ⟨"LDA", .izx, 6, false, .official, .byte .ldaIzx⟩,
  ⟨"LDX", .imm, 2, false, .official, .byte .ldxImm⟩,
  ⟨"FILLER", .imp, 6, false, .filler, .implied .fillerA3⟩,
  ⟨"LDY", .zp0, 3, false, .official, .byte .ldyZp0⟩,
  ⟨"LDA", .zp0, 3, false, .official, .byte .ldaZp0⟩,
  ⟨"LDX", .zp0, 3, false, .official, .byte .ldxZp0⟩,
  ⟨"FILLER", .imp, 3, false, .filler, .implied .fillerA7⟩,
  ⟨"TAY", .imp, 2, false, .official, .implied .tay⟩,
  ⟨"LDA", .imm, 2, false, .official, .byte .ldaImm⟩,
  ⟨"TAX", .imp, 2, false, .official, .implied .tax⟩,
  ⟨"FILLER", .imp, 2, false, .filler, .implied .fillerAB⟩,
  ⟨"LDY", .abs, 4, false, .official, .word .ldyAbs⟩,
  ⟨"LDA", .abs, 4, false, .official, .word .ldaAbs⟩,
  ⟨"LDX", .abs, 4, false, .official, .word .ldxAbs⟩,
  ⟨"FILLER", .imp, 4, false, .filler, .implied .fillerAF⟩]

/-- Opcodes 0xB0 to 0xBF (R124). -/
def rowsB : List Row := [
  ⟨"BCS", .rel, 2, false, .official, .offset .bcs⟩,
  ⟨"LDA", .izy, 5, true, .official, .byte .ldaIzy⟩,
  ⟨"FILLER", .imp, 2, false, .filler, .implied .fillerB2⟩,
  ⟨"FILLER", .imp, 5, false, .filler, .implied .fillerB3⟩,
  ⟨"LDY", .zpx, 4, false, .official, .byte .ldyZpx⟩,
  ⟨"LDA", .zpx, 4, false, .official, .byte .ldaZpx⟩,
  ⟨"LDX", .zpy, 4, false, .official, .byte .ldxZpy⟩,
  ⟨"FILLER", .imp, 4, false, .filler, .implied .fillerB7⟩,
  ⟨"CLV", .imp, 2, false, .official, .implied .clv⟩,
  ⟨"LDA", .aby, 4, true, .official, .word .ldaAby⟩,
  ⟨"TSX", .imp, 2, false, .official, .implied .tsx⟩,
  ⟨"FILLER", .imp, 4, false, .filler, .implied .fillerBB⟩,
  ⟨"LDY", .abx, 4, true, .official, .word .ldyAbx⟩,
  ⟨"LDA", .abx, 4, true, .official, .word .ldaAbx⟩,
  ⟨"LDX", .aby, 4, true, .official, .word .ldxAby⟩,
  ⟨"FILLER", .imp, 4, false, .filler, .implied .fillerBF⟩]

/-- Opcodes 0xC0 to 0xCF (R124). -/
def rowsC : List Row := [
  ⟨"CPY", .imm, 2, false, .official, .byte .cpyImm⟩,
  ⟨"CMP", .izx, 6, false, .official, .byte .cmpIzx⟩,
  ⟨"NOP", .imm, 2, false, .unofficialNop, .byte .nopImmC2⟩,
  ⟨"FILLER", .imp, 8, false, .filler, .implied .fillerC3⟩,
  ⟨"CPY", .zp0, 3, false, .official, .byte .cpyZp0⟩,
  ⟨"CMP", .zp0, 3, false, .official, .byte .cmpZp0⟩,
  ⟨"DEC", .zp0, 5, false, .official, .byte .decZp0⟩,
  ⟨"FILLER", .imp, 5, false, .filler, .implied .fillerC7⟩,
  ⟨"INY", .imp, 2, false, .official, .implied .iny⟩,
  ⟨"CMP", .imm, 2, false, .official, .byte .cmpImm⟩,
  ⟨"DEX", .imp, 2, false, .official, .implied .dex⟩,
  ⟨"FILLER", .imp, 2, false, .filler, .implied .fillerCB⟩,
  ⟨"CPY", .abs, 4, false, .official, .word .cpyAbs⟩,
  ⟨"CMP", .abs, 4, false, .official, .word .cmpAbs⟩,
  ⟨"DEC", .abs, 6, false, .official, .word .decAbs⟩,
  ⟨"FILLER", .imp, 6, false, .filler, .implied .fillerCF⟩]

/-- Opcodes 0xD0 to 0xDF (R124). -/
def rowsD : List Row := [
  ⟨"BNE", .rel, 2, false, .official, .offset .bne⟩,
  ⟨"CMP", .izy, 5, true, .official, .byte .cmpIzy⟩,
  ⟨"FILLER", .imp, 2, false, .filler, .implied .fillerD2⟩,
  ⟨"FILLER", .imp, 8, false, .filler, .implied .fillerD3⟩,
  ⟨"NOP", .zpx, 4, false, .unofficialNop, .byte .nopZpxD4⟩,
  ⟨"CMP", .zpx, 4, false, .official, .byte .cmpZpx⟩,
  ⟨"DEC", .zpx, 6, false, .official, .byte .decZpx⟩,
  ⟨"FILLER", .imp, 6, false, .filler, .implied .fillerD7⟩,
  ⟨"CLD", .imp, 2, false, .official, .implied .cld⟩,
  ⟨"CMP", .aby, 4, true, .official, .word .cmpAby⟩,
  ⟨"NOP", .imp, 2, false, .unofficialNop, .implied .nopImpDA⟩,
  ⟨"FILLER", .imp, 7, false, .filler, .implied .fillerDB⟩,
  ⟨"NOP", .abx, 4, true, .unofficialNop, .word .nopAbxDC⟩,
  ⟨"CMP", .abx, 4, true, .official, .word .cmpAbx⟩,
  ⟨"DEC", .abx, 7, false, .official, .word .decAbx⟩,
  ⟨"FILLER", .imp, 7, false, .filler, .implied .fillerDF⟩]

/-- Opcodes 0xE0 to 0xEF (R124). -/
def rowsE : List Row := [
  ⟨"CPX", .imm, 2, false, .official, .byte .cpxImm⟩,
  ⟨"SBC", .izx, 6, false, .official, .byte .sbcIzx⟩,
  ⟨"NOP", .imm, 2, false, .unofficialNop, .byte .nopImmE2⟩,
  ⟨"FILLER", .imp, 8, false, .filler, .implied .fillerE3⟩,
  ⟨"CPX", .zp0, 3, false, .official, .byte .cpxZp0⟩,
  ⟨"SBC", .zp0, 3, false, .official, .byte .sbcZp0⟩,
  ⟨"INC", .zp0, 5, false, .official, .byte .incZp0⟩,
  ⟨"FILLER", .imp, 5, false, .filler, .implied .fillerE7⟩,
  ⟨"INX", .imp, 2, false, .official, .implied .inx⟩,
  ⟨"SBC", .imm, 2, false, .official, .byte .sbcImm⟩,
  ⟨"NOP", .imp, 2, false, .official, .implied .nop⟩,
  ⟨"FILLER", .imp, 2, false, .filler, .implied .fillerEB⟩,
  ⟨"CPX", .abs, 4, false, .official, .word .cpxAbs⟩,
  ⟨"SBC", .abs, 4, false, .official, .word .sbcAbs⟩,
  ⟨"INC", .abs, 6, false, .official, .word .incAbs⟩,
  ⟨"FILLER", .imp, 6, false, .filler, .implied .fillerEF⟩]

/-- Opcodes 0xF0 to 0xFF (R124). -/
def rowsF : List Row := [
  ⟨"BEQ", .rel, 2, false, .official, .offset .beq⟩,
  ⟨"SBC", .izy, 5, true, .official, .byte .sbcIzy⟩,
  ⟨"FILLER", .imp, 2, false, .filler, .implied .fillerF2⟩,
  ⟨"FILLER", .imp, 8, false, .filler, .implied .fillerF3⟩,
  ⟨"NOP", .zpx, 4, false, .unofficialNop, .byte .nopZpxF4⟩,
  ⟨"SBC", .zpx, 4, false, .official, .byte .sbcZpx⟩,
  ⟨"INC", .zpx, 6, false, .official, .byte .incZpx⟩,
  ⟨"FILLER", .imp, 6, false, .filler, .implied .fillerF7⟩,
  ⟨"SED", .imp, 2, false, .official, .implied .sed⟩,
  ⟨"SBC", .aby, 4, true, .official, .word .sbcAby⟩,
  ⟨"NOP", .imp, 2, false, .unofficialNop, .implied .nopImpFA⟩,
  ⟨"FILLER", .imp, 7, false, .filler, .implied .fillerFB⟩,
  ⟨"NOP", .abx, 4, true, .unofficialNop, .word .nopAbxFC⟩,
  ⟨"SBC", .abx, 4, true, .official, .word .sbcAbx⟩,
  ⟨"INC", .abx, 7, false, .official, .word .incAbx⟩,
  ⟨"FILLER", .imp, 7, false, .filler, .implied .fillerFF⟩]

/-- The opcode table: 256 rows, the row of opcode `op` at index `op` (R123, R126). -/
def opcodeTable : List Row :=
  rows0 ++ (rows1 ++ (rows2 ++ (rows3 ++ (rows4 ++ (rows5 ++ (rows6 ++ (rows7 ++ (
  rows8 ++ (rows9 ++ (rowsA ++ (rowsB ++ (rowsC ++ (rowsD ++ (rowsE ++ rowsF))))))))))))))

/-- "256 entries, all must be populated" (R126). -/
theorem opcodeTable_length : opcodeTable.length = 256 := by
  simp only [opcodeTable, List.length_append]
  rfl

/-- The row of an opcode: one lookup (R123). -/
def rowOf (op : Byte) : Row :=
  opcodeTable[op.toNat]'(by have h := op.isLt; rw [opcodeTable_length]; omega)

/-- Why bytes do not decode: they end inside an instruction. No opcode value is reserved (R127). -/
inductive DecodeError where
  /-- There is no opcode byte. -/
  | noOpcode
  /-- The opcode's operand bytes are missing or incomplete. -/
  | missingOperand (opcode : Byte)
deriving DecidableEq, Repr

/-- Decode the instruction at the head of a list of bytes; the bytes after it are returned. The first operand byte of a word is
its low byte (R121, R122). -/
def decode : List Byte → Except DecodeError (Instr × List Byte)
  | [] => .error .noOpcode
  | op :: rest =>
    match (rowOf op).build, rest with
    | .implied i, rest => .ok (i, rest)
    | .byte f, b :: rest => .ok (f b, rest)
    | .offset f, b :: rest => .ok (f b.toInt, rest)
    | .word f, lo :: hi :: rest => .ok (f (hi ++ lo), rest)
    | _, _ => .error (.missingOperand op)

/-- The instruction of a word numbered as the opcode table numbers it: the first byte in bits 7..0, later bytes above it, every
bit from `nbits` on zero. -/
def decodeTableWord (nbits w : Nat) : Option Instr :=
  let v := w % 2 ^ nbits
  match decode [BitVec.ofNat 8 v, BitVec.ofNat 8 (v / 256), BitVec.ofNat 8 (v / 65536)] with
  | .ok r => some r.1
  | .error _ => none

/-! ### The encoder -/

/-- The opcode value of an instruction (R124). -/
def Instr.opcode (i : Instr) : Byte :=
  match i with
  | .brk => 0x00#8
  | .oraIzx _ => 0x01#8
  | .filler02 => 0x02#8
  | .filler03 => 0x03#8
  | .nopZp004 _ => 0x04#8
  | .oraZp0 _ => 0x05#8
  | .aslZp0 _ => 0x06#8
  | .filler07 => 0x07#8
  | .php => 0x08#8
  | .oraImm _ => 0x09#8
  | .aslAcc => 0x0A#8
  | .filler0B => 0x0B#8
  | .nopAbs0C _ => 0x0C#8
  | .oraAbs _ => 0x0D#8
  | .aslAbs _ => 0x0E#8
  | .filler0F => 0x0F#8
  | .bpl _ => 0x10#8
  | .oraIzy _ => 0x11#8
  | .filler12 => 0x12#8
  | .filler13 => 0x13#8
  | .nopZpx14 _ => 0x14#8
  | .oraZpx _ => 0x15#8
  | .aslZpx _ => 0x16#8
  | .filler17 => 0x17#8
  | .clc => 0x18#8
  | .oraAby _ => 0x19#8
  | .nopImp1A => 0x1A#8
  | .filler1B => 0x1B#8
  | .nopAbx1C _ => 0x1C#8
  | .oraAbx _ => 0x1D#8
  | .aslAbx _ => 0x1E#8
  | .filler1F => 0x1F#8
  | .jsr _ => 0x20#8
  | .andIzx _ => 0x21#8
  | .filler22 => 0x22#8
  | .filler23 => 0x23#8
  | .bitZp0 _ => 0x24#8
  | .andZp0 _ => 0x25#8
  | .rolZp0 _ => 0x26#8
  | .filler27 => 0x27#8
  | .plp => 0x28#8
  | .andImm _ => 0x29#8
  | .rolAcc => 0x2A#8
  | .filler2B => 0x2B#8
  | .bitAbs _ => 0x2C#8
  | .andAbs _ => 0x2D#8
  | .rolAbs _ => 0x2E#8
  | .filler2F => 0x2F#8
  | .bmi _ => 0x30#8
  | .andIzy _ => 0x31#8
  | .filler32 => 0x32#8
  | .filler33 => 0x33#8
  | .nopZpx34 _ => 0x34#8
  | .andZpx _ => 0x35#8
  | .rolZpx _ => 0x36#8
  | .filler37 => 0x37#8
  | .sec => 0x38#8
  | .andAby _ => 0x39#8
  | .nopImp3A => 0x3A#8
  | .filler3B => 0x3B#8
  | .nopAbx3C _ => 0x3C#8
  | .andAbx _ => 0x3D#8
  | .rolAbx _ => 0x3E#8
  | .filler3F => 0x3F#8
  | .rti => 0x40#8
  | .eorIzx _ => 0x41#8
  | .filler42 => 0x42#8
  | .filler43 => 0x43#8
  | .nopZp044 _ => 0x44#8
  | .eorZp0 _ => 0x45#8
  | .lsrZp0 _ => 0x46#8
  | .filler47 => 0x47#8
  | .pha => 0x48#8
  | .eorImm _ => 0x49#8
  | .lsrAcc => 0x4A#8
  | .filler4B => 0x4B#8
  | .jmpAbs _ => 0x4C#8
  | .eorAbs _ => 0x4D#8
  | .lsrAbs _ => 0x4E#8
  | .filler4F => 0x4F#8
  | .bvc _ => 0x50#8
  | .eorIzy _ => 0x51#8
  | .filler52 => 0x52#8
  | .filler53 => 0x53#8
  | .nopZpx54 _ => 0x54#8
  | .eorZpx _ => 0x55#8
  | .lsrZpx _ => 0x56#8
  | .filler57 => 0x57#8
  | .cli => 0x58#8
  | .eorAby _ => 0x59#8
  | .nopImp5A => 0x5A#8
  | .filler5B => 0x5B#8
  | .nopAbx5C _ => 0x5C#8
  | .eorAbx _ => 0x5D#8
  | .lsrAbx _ => 0x5E#8
  | .filler5F => 0x5F#8
  | .rts => 0x60#8
  | .adcIzx _ => 0x61#8
  | .filler62 => 0x62#8
  | .filler63 => 0x63#8
  | .nopZp064 _ => 0x64#8
  | .adcZp0 _ => 0x65#8
  | .rorZp0 _ => 0x66#8
  | .filler67 => 0x67#8
  | .pla => 0x68#8
  | .adcImm _ => 0x69#8
  | .rorAcc => 0x6A#8
  | .filler6B => 0x6B#8
  | .jmpInd _ => 0x6C#8
  | .adcAbs _ => 0x6D#8
  | .rorAbs _ => 0x6E#8
  | .filler6F => 0x6F#8
  | .bvs _ => 0x70#8
  | .adcIzy _ => 0x71#8
  | .filler72 => 0x72#8
  | .filler73 => 0x73#8
  | .nopZpx74 _ => 0x74#8
  | .adcZpx _ => 0x75#8
  | .rorZpx _ => 0x76#8
  | .filler77 => 0x77#8
  | .sei => 0x78#8
  | .adcAby _ => 0x79#8
  | .nopImp7A => 0x7A#8
  | .filler7B => 0x7B#8
  | .nopAbx7C _ => 0x7C#8
  | .adcAbx _ => 0x7D#8
  | .rorAbx _ => 0x7E#8
  | .filler7F => 0x7F#8
  | .nopImm80 _ => 0x80#8
  | .staIzx _ => 0x81#8
  | .nopImm82 _ => 0x82#8
  | .filler83 => 0x83#8
  | .styZp0 _ => 0x84#8
  | .staZp0 _ => 0x85#8
  | .stxZp0 _ => 0x86#8
  | .filler87 => 0x87#8
  | .dey => 0x88#8
  | .nopImm89 _ => 0x89#8
  | .txa => 0x8A#8
  | .filler8B => 0x8B#8
  | .styAbs _ => 0x8C#8
  | .staAbs _ => 0x8D#8
  | .stxAbs _ => 0x8E#8
  | .filler8F => 0x8F#8
  | .bcc _ => 0x90#8
  | .staIzy _ => 0x91#8
  | .filler92 => 0x92#8
  | .filler93 => 0x93#8
  | .styZpx _ => 0x94#8
  | .staZpx _ => 0x95#8
  | .stxZpy _ => 0x96#8
  | .filler97 => 0x97#8
  | .tya => 0x98#8
  | .staAby _ => 0x99#8
  | .txs => 0x9A#8
  | .filler9B => 0x9B#8
  | .filler9C => 0x9C#8
  | .staAbx _ => 0x9D#8
  | .filler9E => 0x9E#8
  | .filler9F => 0x9F#8
  | .ldyImm _ => 0xA0#8
  | .ldaIzx _ => 0xA1#8
  | .ldxImm _ => 0xA2#8
  | .fillerA3 => 0xA3#8
  | .ldyZp0 _ => 0xA4#8
  | .ldaZp0 _ => 0xA5#8
  | .ldxZp0 _ => 0xA6#8
  | .fillerA7 => 0xA7#8
  | .tay => 0xA8#8
  | .ldaImm _ => 0xA9#8
  | .tax => 0xAA#8
  | .fillerAB => 0xAB#8
  | .ldyAbs _ => 0xAC#8
  | .ldaAbs _ => 0xAD#8
  | .ldxAbs _ => 0xAE#8
  | .fillerAF => 0xAF#8
  | .bcs _ => 0xB0#8
  | .ldaIzy _ => 0xB1#8
  | .fillerB2 => 0xB2#8
  | .fillerB3 => 0xB3#8
  | .ldyZpx _ => 0xB4#8
  | .ldaZpx _ => 0xB5#8
  | .ldxZpy _ => 0xB6#8
  | .fillerB7 => 0xB7#8
  | .clv => 0xB8#8
  | .ldaAby _ => 0xB9#8
  | .tsx => 0xBA#8
  | .fillerBB => 0xBB#8
  | .ldyAbx _ => 0xBC#8
  | .ldaAbx _ => 0xBD#8
  | .ldxAby _ => 0xBE#8
  | .fillerBF => 0xBF#8
  | .cpyImm _ => 0xC0#8
  | .cmpIzx _ => 0xC1#8
  | .nopImmC2 _ => 0xC2#8
  | .fillerC3 => 0xC3#8
  | .cpyZp0 _ => 0xC4#8
  | .cmpZp0 _ => 0xC5#8
  | .decZp0 _ => 0xC6#8
  | .fillerC7 => 0xC7#8
  | .iny => 0xC8#8
  | .cmpImm _ => 0xC9#8
  | .dex => 0xCA#8
  | .fillerCB => 0xCB#8
  | .cpyAbs _ => 0xCC#8
  | .cmpAbs _ => 0xCD#8
  | .decAbs _ => 0xCE#8
  | .fillerCF => 0xCF#8
  | .bne _ => 0xD0#8
  | .cmpIzy _ => 0xD1#8
  | .fillerD2 => 0xD2#8
  | .fillerD3 => 0xD3#8
  | .nopZpxD4 _ => 0xD4#8
  | .cmpZpx _ => 0xD5#8
  | .decZpx _ => 0xD6#8
  | .fillerD7 => 0xD7#8
  | .cld => 0xD8#8
  | .cmpAby _ => 0xD9#8
  | .nopImpDA => 0xDA#8
  | .fillerDB => 0xDB#8
  | .nopAbxDC _ => 0xDC#8
  | .cmpAbx _ => 0xDD#8
  | .decAbx _ => 0xDE#8
  | .fillerDF => 0xDF#8
  | .cpxImm _ => 0xE0#8
  | .sbcIzx _ => 0xE1#8
  | .nopImmE2 _ => 0xE2#8
  | .fillerE3 => 0xE3#8
  | .cpxZp0 _ => 0xE4#8
  | .sbcZp0 _ => 0xE5#8
  | .incZp0 _ => 0xE6#8
  | .fillerE7 => 0xE7#8
  | .inx => 0xE8#8
  | .sbcImm _ => 0xE9#8
  | .nop => 0xEA#8
  | .fillerEB => 0xEB#8
  | .cpxAbs _ => 0xEC#8
  | .sbcAbs _ => 0xED#8
  | .incAbs _ => 0xEE#8
  | .fillerEF => 0xEF#8
  | .beq _ => 0xF0#8
  | .sbcIzy _ => 0xF1#8
  | .fillerF2 => 0xF2#8
  | .fillerF3 => 0xF3#8
  | .nopZpxF4 _ => 0xF4#8
  | .sbcZpx _ => 0xF5#8
  | .incZpx _ => 0xF6#8
  | .fillerF7 => 0xF7#8
  | .sed => 0xF8#8
  | .sbcAby _ => 0xF9#8
  | .nopImpFA => 0xFA#8
  | .fillerFB => 0xFB#8
  | .nopAbxFC _ => 0xFC#8
  | .sbcAbx _ => 0xFD#8
  | .incAbx _ => 0xFE#8
  | .fillerFF => 0xFF#8

/-- The operand of an instruction, with its mode (R124). -/
def Instr.operand (i : Instr) : Operand :=
  match i with
  | .brk => .imp
  | .oraIzx z => .izx z
  | .filler02 => .imp
  | .filler03 => .imp
  | .nopZp004 z => .zp0 z
  | .oraZp0 z => .zp0 z
  | .aslZp0 z => .zp0 z
  | .filler07 => .imp
  | .php => .imp
  | .oraImm b => .imm b
  | .aslAcc => .imp
  | .filler0B => .imp
  | .nopAbs0C a => .abs a
  | .oraAbs a => .abs a
  | .aslAbs a => .abs a
  | .filler0F => .imp
  | .bpl r => .rel r
  | .oraIzy z => .izy z
  | .filler12 => .imp
  | .filler13 => .imp
  | .nopZpx14 z => .zpx z
  | .oraZpx z => .zpx z
  | .aslZpx z => .zpx z
  | .filler17 => .imp
  | .clc => .imp
  | .oraAby a => .aby a
  | .nopImp1A => .imp
  | .filler1B => .imp
  | .nopAbx1C a => .abx a
  | .oraAbx a => .abx a
  | .aslAbx a => .abx a
  | .filler1F => .imp
  | .jsr a => .abs a
  | .andIzx z => .izx z
  | .filler22 => .imp
  | .filler23 => .imp
  | .bitZp0 z => .zp0 z
  | .andZp0 z => .zp0 z
  | .rolZp0 z => .zp0 z
  | .filler27 => .imp
  | .plp => .imp
  | .andImm b => .imm b
  | .rolAcc => .imp
  | .filler2B => .imp
  | .bitAbs a => .abs a
  | .andAbs a => .abs a
  | .rolAbs a => .abs a
  | .filler2F => .imp
  | .bmi r => .rel r
  | .andIzy z => .izy z
  | .filler32 => .imp
  | .filler33 => .imp
  | .nopZpx34 z => .zpx z
  | .andZpx z => .zpx z
  | .rolZpx z => .zpx z
  | .filler37 => .imp
  | .sec => .imp
  | .andAby a => .aby a
  | .nopImp3A => .imp
  | .filler3B => .imp
  | .nopAbx3C a => .abx a
  | .andAbx a => .abx a
  | .rolAbx a => .abx a
  | .filler3F => .imp
  | .rti => .imp
  | .eorIzx z => .izx z
  | .filler42 => .imp
  | .filler43 => .imp
  | .nopZp044 z => .zp0 z
  | .eorZp0 z => .zp0 z
  | .lsrZp0 z => .zp0 z
  | .filler47 => .imp
  | .pha => .imp
  | .eorImm b => .imm b
  | .lsrAcc => .imp
  | .filler4B => .imp
  | .jmpAbs a => .abs a
  | .eorAbs a => .abs a
  | .lsrAbs a => .abs a
  | .filler4F => .imp
  | .bvc r => .rel r
  | .eorIzy z => .izy z
  | .filler52 => .imp
  | .filler53 => .imp
  | .nopZpx54 z => .zpx z
  | .eorZpx z => .zpx z
  | .lsrZpx z => .zpx z
  | .filler57 => .imp
  | .cli => .imp
  | .eorAby a => .aby a
  | .nopImp5A => .imp
  | .filler5B => .imp
  | .nopAbx5C a => .abx a
  | .eorAbx a => .abx a
  | .lsrAbx a => .abx a
  | .filler5F => .imp
  | .rts => .imp
  | .adcIzx z => .izx z
  | .filler62 => .imp
  | .filler63 => .imp
  | .nopZp064 z => .zp0 z
  | .adcZp0 z => .zp0 z
  | .rorZp0 z => .zp0 z
  | .filler67 => .imp
  | .pla => .imp
  | .adcImm b => .imm b
  | .rorAcc => .imp
  | .filler6B => .imp
  | .jmpInd a => .ind a
  | .adcAbs a => .abs a
  | .rorAbs a => .abs a
  | .filler6F => .imp
  | .bvs r => .rel r
  | .adcIzy z => .izy z
  | .filler72 => .imp
  | .filler73 => .imp
  | .nopZpx74 z => .zpx z
  | .adcZpx z => .zpx z
  | .rorZpx z => .zpx z
  | .filler77 => .imp
  | .sei => .imp
  | .adcAby a => .aby a
  | .nopImp7A => .imp
  | .filler7B => .imp
  | .nopAbx7C a => .abx a
  | .adcAbx a => .abx a
  | .rorAbx a => .abx a
  | .filler7F => .imp
  | .nopImm80 b => .imm b
  | .staIzx z => .izx z
  | .nopImm82 b => .imm b
  | .filler83 => .imp
  | .styZp0 z => .zp0 z
  | .staZp0 z => .zp0 z
  | .stxZp0 z => .zp0 z
  | .filler87 => .imp
  | .dey => .imp
  | .nopImm89 b => .imm b
  | .txa => .imp
  | .filler8B => .imp
  | .styAbs a => .abs a
  | .staAbs a => .abs a
  | .stxAbs a => .abs a
  | .filler8F => .imp
  | .bcc r => .rel r
  | .staIzy z => .izy z
  | .filler92 => .imp
  | .filler93 => .imp
  | .styZpx z => .zpx z
  | .staZpx z => .zpx z
  | .stxZpy z => .zpy z
  | .filler97 => .imp
  | .tya => .imp
  | .staAby a => .aby a
  | .txs => .imp
  | .filler9B => .imp
  | .filler9C => .imp
  | .staAbx a => .abx a
  | .filler9E => .imp
  | .filler9F => .imp
  | .ldyImm b => .imm b
  | .ldaIzx z => .izx z
  | .ldxImm b => .imm b
  | .fillerA3 => .imp
  | .ldyZp0 z => .zp0 z
  | .ldaZp0 z => .zp0 z
  | .ldxZp0 z => .zp0 z
  | .fillerA7 => .imp
  | .tay => .imp
  | .ldaImm b => .imm b
  | .tax => .imp
  | .fillerAB => .imp
  | .ldyAbs a => .abs a
  | .ldaAbs a => .abs a
  | .ldxAbs a => .abs a
  | .fillerAF => .imp
  | .bcs r => .rel r
  | .ldaIzy z => .izy z
  | .fillerB2 => .imp
  | .fillerB3 => .imp
  | .ldyZpx z => .zpx z
  | .ldaZpx z => .zpx z
  | .ldxZpy z => .zpy z
  | .fillerB7 => .imp
  | .clv => .imp
  | .ldaAby a => .aby a
  | .tsx => .imp
  | .fillerBB => .imp
  | .ldyAbx a => .abx a
  | .ldaAbx a => .abx a
  | .ldxAby a => .aby a
  | .fillerBF => .imp
  | .cpyImm b => .imm b
  | .cmpIzx z => .izx z
  | .nopImmC2 b => .imm b
  | .fillerC3 => .imp
  | .cpyZp0 z => .zp0 z
  | .cmpZp0 z => .zp0 z
  | .decZp0 z => .zp0 z
  | .fillerC7 => .imp
  | .iny => .imp
  | .cmpImm b => .imm b
  | .dex => .imp
  | .fillerCB => .imp
  | .cpyAbs a => .abs a
  | .cmpAbs a => .abs a
  | .decAbs a => .abs a
  | .fillerCF => .imp
  | .bne r => .rel r
  | .cmpIzy z => .izy z
  | .fillerD2 => .imp
  | .fillerD3 => .imp
  | .nopZpxD4 z => .zpx z
  | .cmpZpx z => .zpx z
  | .decZpx z => .zpx z
  | .fillerD7 => .imp
  | .cld => .imp
  | .cmpAby a => .aby a
  | .nopImpDA => .imp
  | .fillerDB => .imp
  | .nopAbxDC a => .abx a
  | .cmpAbx a => .abx a
  | .decAbx a => .abx a
  | .fillerDF => .imp
  | .cpxImm b => .imm b
  | .sbcIzx z => .izx z
  | .nopImmE2 b => .imm b
  | .fillerE3 => .imp
  | .cpxZp0 z => .zp0 z
  | .sbcZp0 z => .zp0 z
  | .incZp0 z => .zp0 z
  | .fillerE7 => .imp
  | .inx => .imp
  | .sbcImm b => .imm b
  | .nop => .imp
  | .fillerEB => .imp
  | .cpxAbs a => .abs a
  | .sbcAbs a => .abs a
  | .incAbs a => .abs a
  | .fillerEF => .imp
  | .beq r => .rel r
  | .sbcIzy z => .izy z
  | .fillerF2 => .imp
  | .fillerF3 => .imp
  | .nopZpxF4 z => .zpx z
  | .sbcZpx z => .zpx z
  | .incZpx z => .zpx z
  | .fillerF7 => .imp
  | .sed => .imp
  | .sbcAby a => .aby a
  | .nopImpFA => .imp
  | .fillerFB => .imp
  | .nopAbxFC a => .abx a
  | .sbcAbx a => .abx a
  | .incAbx a => .abx a
  | .fillerFF => .imp

/-- The operand bytes in the order they stand in memory (R121, R122). -/
def Operand.bytes : Operand → List Byte
  | .imp => []
  | .imm b | .zp0 b | .zpx b | .zpy b | .izx b | .izy b => [b]
  | .rel r => [BitVec.ofInt 8 r]
  | .abs a | .abx a | .aby a | .ind a => [a.setWidth 8, (a >>> 8).setWidth 8]

/-- The bytes of an instruction: the opcode byte, then the operand bytes (R120). -/
def encode (i : Instr) : List Byte := i.opcode :: i.operand.bytes

/-- The length in bytes of an instruction (R121). -/
def Instr.length (i : Instr) : Nat := i.operand.mode.length

end Sys2Proof
end

