-- ==== Sys2Proof/Machine/Flags.lean ====
section
/-! DEFINITION. The status register's flags (spec/10_state.md rule R22) and every flag computation of spec/41 to spec/45:
reading and writing one flag, `SetZN`, and the results and flags of add, compare, shift and rotate. -/

namespace Sys2Proof.Machine

/-- The eight flags of `P` (R22). -/
inductive Flag where
  | c | z | i | d | b | u | v | n
deriving DecidableEq, Repr

/-- The bit position of a flag (R22). -/
def Flag.bit : Flag → Nat
  | .c => 0 | .z => 1 | .i => 2 | .d => 3 | .b => 4 | .u => 5 | .v => 6 | .n => 7

/-- The mask of a flag (R22). -/
def Flag.mask (f : Flag) : Byte := 1#8 <<< f.bit

/-- Read one flag of a status byte. -/
def getFlag (f : Flag) (p : Byte) : Bool := p.getLsbD f.bit

/-- Write one flag of a status byte; the other seven bits stay. -/
def setFlag (f : Flag) (on : Bool) (p : Byte) : Byte := if on then p ||| f.mask else p &&& ~~~f.mask

/-- `SetZN(v)` (R11): Z is set when `v` is 0, N is `v[7]`. -/
def setZN (v : Byte) (p : Byte) : Byte := setFlag .n (v.getLsbD 7) (setFlag .z (decide (v = 0x00#8)) p)

/-- `bool(x)` of R8 for a carry that enters an integer sum. -/
def carryIn (p : Byte) : Nat := (getFlag .c p).toNat

/-- `sum <- A + M + P.C`, wide enough not to overflow (R201, R200 (f)). -/
def addSum (a m p : Byte) : Nat := a.toNat + m.toNat + carryIn p

/-- `R <- sum & 0xFF` (R201). -/
def addResult (a m p : Byte) : Byte := BitVec.ofNat 8 (addSum a m p)

/-- The flags C, Z, V, N of an addition (R201): V is bit 7 of `(~(A ^ M)) & (A ^ R)`. -/
def addFlags (a m p : Byte) : Byte :=
  let r := addResult a m p
  setFlag .n (r.getLsbD 7)
    (setFlag .v ((~~~(a ^^^ m) &&& (a ^^^ r)).getLsbD 7)
      (setFlag .z (decide (r = 0x00#8)) (setFlag .c (decide (addSum a m p > 0xFF)) p)))

/-- `W <- M ^ 0xFF`: SBC is the addition of the complement (R202). -/
def subOperand (m : Byte) : Byte := m ^^^ 0xFF#8

/-- The flags C, Z, V, N of a subtraction, with V as R202 writes it: bit 7 of `(R ^ A) & (R ^ W)`. -/
def subFlags (a m p : Byte) : Byte :=
  let w := subOperand m
  let r := addResult a w p
  setFlag .n (r.getLsbD 7)
    (setFlag .v (((r ^^^ a) &&& (r ^^^ w)).getLsbD 7)
      (setFlag .z (decide (r = 0x00#8)) (setFlag .c (decide (addSum a w p > 0xFF)) p)))

/-- The flags C, Z, N of a comparison of a register with a byte (R207 to R209). -/
def compareFlags (reg m p : Byte) : Byte :=
  let d := reg - m
  setFlag .n (d.getLsbD 7) (setFlag .z (decide (d = 0x00#8)) (setFlag .c (decide (m.toNat ≤ reg.toNat)) p))

/-- The flags Z, N, V of BIT: Z from `A & M`, N and V from the byte itself (R206). -/
def bitFlags (a m p : Byte) : Byte :=
  setFlag .v (m.getLsbD 6) (setFlag .n (m.getLsbD 7) (setFlag .z (decide (a &&& m = 0x00#8)) p))

/-- ASL (R231). -/
def aslResult (m : Byte) : Byte := m <<< 1

/-- LSR (R232). -/
def lsrResult (m : Byte) : Byte := m >>> 1

/-- ROL: the old carry enters bit 0 (R233). -/
def rolResult (m p : Byte) : Byte := (m <<< 1) ||| (if getFlag .c p then 0x01#8 else 0x00#8)

/-- ROR: the old carry enters bit 7 (R234). -/
def rorResult (m p : Byte) : Byte := (if getFlag .c p then 0x80#8 else 0x00#8) ||| (m >>> 1)

/-- The flags of a shift or rotate: the bit that left is the new carry, Z and N from the result (R230). -/
def shiftFlags (out : Bool) (r p : Byte) : Byte := setZN r (setFlag .c out p)

/-- The copy of `P` that PHP and BRK push: B and U set (R256, R283). -/
def pushedStatus (p : Byte) : Byte := p ||| 0x10#8 ||| 0x20#8

end Sys2Proof.Machine
end

