-- ==== Sys2Proof/Config.lean ====
section
/-! DEFINITION. The named parameters of spec/00_scope.md rule R7 that select a behaviour. State holds one `Params` record
(`State.config`, log entry 2), which nothing in the machine writes: a statement about every state is a statement about
every parameter value. The memory parameters P_RAM_INIT and P_PPU_MEM_INIT are the contents of the memories of a state. -/

namespace Sys2Proof

/-- P_DMA_TICK_MODE (R460): when the DMA engine steps. -/
inductive DmaTickMode where
  | cpuSlot
  | everyTick
deriving DecidableEq, Repr

/-- P_ODD_FRAME_SKIP (R402): whether an odd frame is one PPU step shorter while rendering is enabled. -/
inductive OddFrameSkip where
  | none
  | oddFramesWhenRendering
deriving DecidableEq, Repr

/-- P_ILLEGAL_OPCODE (R311): what the start of a filler opcode does. -/
inductive IllegalOpcode where
  | filler
  | refuse
deriving DecidableEq, Repr

/-- P_PRG_WRITE (R83): what a CPU write to PRG space does to the PRG buffer. -/
inductive PrgWrite where
  | writeThrough
  | ignore
deriving DecidableEq, Repr

/-- The parameters of one machine (R7). -/
structure Params where
  dmaTickMode : DmaTickMode
  oddFrameSkip : OddFrameSkip
  illegalOpcode : IllegalOpcode
  prgWrite : PrgWrite
deriving DecidableEq, Repr

/-- The default of every parameter (R7). -/
def Params.default : Params where
  dmaTickMode := .cpuSlot
  oddFrameSkip := .none
  illegalOpcode := .filler
  prgWrite := .writeThrough

end Sys2Proof
end

