-- ==== Sys2Proof/Machine/State.lean ====
section
/-! DEFINITION. The state of the block as plain data (spec/10_state.md, owner by owner: CPU, bus, cartridge, PPU), the
reasons a step can stop, and the state right after reset (spec/70_reset_and_hazards.md rules R480, R482, R483). -/

namespace Sys2Proof.Machine

/-- A memory: (address, byte) pairs, addresses strictly rising, no entry equal to what an unlisted address reads as
(`Memory.wf` in Machine/Memory.lean). Keys are the offsets the spec indexes the buffer with. -/
abbrev Memory := List Host.Cell

/-- One line of the picture: (column, colour) pairs in the same canonical form as a memory. -/
abbrev PictureLine := List (Nat × Colour)

/-- The picture `ppu.frame` (R45): (line, cells of the line) pairs in the same canonical form; a line of zeros is not listed. -/
abbrev Picture := List (Nat × PictureLine)

/-- Nametable mirroring of the cartridge (R33). -/
inductive Mirror where
  | horizontal
  | vertical
  | oneScreenLo
  | oneScreenHi
deriving DecidableEq, Repr

/-- An inserted cartridge (R32). `prg` has `nPrg * 16384` bytes; `chr` has `nChr * 8192` bytes, or 8192 bytes of RAM when
`nChr = 0`. -/
structure Cartridge where
  nPrg : Nat
  nChr : Nat
  mapperId : Byte
  mirror : Mirror
  prg : Memory
  chr : Memory
deriving DecidableEq, Repr

/-- The CPU: register file (R20 to R26) and hidden state (R27). -/
structure Cpu where
  a : Byte
  x : Byte
  y : Byte
  s : Byte
  p : Byte
  pc : Word
  /-- CPU cycles left in the current instruction or interrupt sequence. -/
  cycles : Nat
  opcode : Byte
  addrAbs : Word
  addrRel : Word
  fetched : Byte
deriving DecidableEq, Repr

/-- The bus: tick counter and work RAM (R29), DMA engine (R30), controller ports (R31). -/
structure Bus where
  tick : Nat
  /-- 2048 bytes, keyed by `addr & 0x07FF`. -/
  ram : Memory
  dmaPage : Byte
  dmaAddr : Byte
  dmaData : Byte
  dmaDummy : Bool
  dmaTransfer : Bool
  controllerState0 : Byte
  controllerState1 : Byte
  /-- The host's snapshot P_CONTROLLER[0]: a host input, written by `SetController` only (log entry 10). -/
  controllerInput0 : Byte
  /-- The host's snapshot P_CONTROLLER[1]. -/
  controllerInput1 : Byte
deriving DecidableEq, Repr

/-- The PPU: registers (R34 to R38), memories (R39 to R42), background pipeline (R43), raster and picture (R44, R45). -/
structure Ppu where
  ctrl : Byte
  mask : Byte
  status : Byte
  v : Loopy
  t : Loopy
  fineX : BitVec 3
  w : Bool
  dataBuffer : Byte
  oamAddr : Byte
  oam : Memory
  palette : Memory
  nametable0 : Memory
  nametable1 : Memory
  pattern0 : Memory
  pattern1 : Memory
  bgNextTileId : Byte
  bgNextTileAttrib : Byte
  bgNextTileLsb : Byte
  bgNextTileMsb : Byte
  bgShifterPatternLo : Word
  bgShifterPatternHi : Word
  bgShifterAttribLo : Word
  bgShifterAttribHi : Word
  cycle : Nat
  scanline : Int
  frameComplete : Bool
  nmi : Bool
  oddFrame : Bool
  frame : Picture
deriving DecidableEq, Repr

/-- The whole block. `cart = none` is the spec's "no cartridge is inserted" (R482). -/
structure State where
  cpu : Cpu
  bus : Bus
  cart : Option Cartridge
  ppu : Ppu
  config : Params
deriving DecidableEq, Repr

/-- The reasons a step can fault: NONE. "The hardware raises no synchronous exception" (R320) and 93_implementation_defined.md
says of the treatment `fault`: "never used". Having no constructor is neither safe nor unsafe: nothing is stopped. -/
inductive Fault where
deriving DecidableEq, Repr

/-- The reasons a step refuses. -/
inductive Refusal where
  /-- Raised by `exec` for an instruction that has no meaning yet (safe); no arm raises it. -/
  | notModelled (mnemonic : String)
  /-- Raised by every filler opcode under P_ILLEGAL_OPCODE = REFUSE, and only there (R311, R321). Safe: the run ends. -/
  | illegalOpcode
  /-- Raised by a tick or a host reset with no cartridge inserted (R321, R451, R480). Safe: the run ends. -/
  | noCartridge
  /-- Raised when the host inserts an image whose construction fails (R85, R321). Safe: the run ends. -/
  | invalidImage
deriving DecidableEq, Repr

/-- What a meaning, a tick or a host operation answers. -/
abbrev Result := Host.Outcome State Fault Refusal

/-- The cartridge inserted in `State.reset` (log entry 5, DESIGN CHOICE): one PRG bank in which nothing is listed, CHR RAM,
Horizontal mirroring, mapper 000. -/
def blankCartridge : Cartridge where
  nPrg := 1
  nChr := 0
  mapperId := 0x00#8
  mirror := .horizontal
  prg := []
  chr := []

/-- The machine right after reset: the values of R480 and R483, the power-on values of R482 for what reset leaves alone, and
the blank cartridge, whose reset vector reads 0x0000 (log entries 3, 4, 5, 7, 10). -/
def State.reset : State where
  cpu :=
    { a := 0x00#8, x := 0x00#8, y := 0x00#8, s := 0xFD#8, p := 0x20#8, pc := 0x0000#16, cycles := 8, opcode := 0x00#8,
      addrAbs := 0x0000#16, addrRel := 0x0000#16, fetched := 0x00#8 }
  bus :=
    { tick := 0, ram := [], dmaPage := 0x00#8, dmaAddr := 0x00#8, dmaData := 0x00#8, dmaDummy := true,
      dmaTransfer := false, controllerState0 := 0x00#8, controllerState1 := 0x00#8, controllerInput0 := 0x00#8,
      controllerInput1 := 0x00#8 }
  cart := some blankCartridge
  ppu :=
    { ctrl := 0x00#8, mask := 0x00#8, status := 0x00#8, v := 0x0000#15, t := 0x0000#15, fineX := 0#3, w := false,
      dataBuffer := 0x00#8, oamAddr := 0x00#8, oam := [], palette := [], nametable0 := [], nametable1 := [],
      pattern0 := [], pattern1 := [], bgNextTileId := 0x00#8, bgNextTileAttrib := 0x00#8, bgNextTileLsb := 0x00#8,
      bgNextTileMsb := 0x00#8, bgShifterPatternLo := 0x0000#16, bgShifterPatternHi := 0x0000#16,
      bgShifterAttribLo := 0x0000#16, bgShifterAttribHi := 0x0000#16, cycle := 0, scanline := -1,
      frameComplete := false, nmi := false, oddFrame := false, frame := [] }
  config := Params.default

end Sys2Proof.Machine
end

