-- ==== Sys2Proof/Machine/Memory.lean ====
section
/-! DEFINITION. The cells every memory of the block is made of: reading and writing one cell, and the canonical form.
What an unlisted address reads as is said here once. Laws: Laws/Memory.lean. -/

namespace Sys2Proof.Machine

/-- What an address nothing is listed for reads as: 0x00. For work RAM this is the choice of P_RAM_INIT in a state whose `ram`
lists nothing (log entry 3), for the PPU memories that of P_PPU_MEM_INIT (log entry 4), for `chr` the zeroed CHR RAM of R84. -/
def Memory.unlisted : Byte := 0x00#8

/-- What an unlisted cell of the picture reads as: "Power-on content is 0 in every cell" (R45). -/
def Picture.unlisted : Colour := 0#6

/-- The cell at address `a`; `d` where nothing is listed. -/
def cellRead {α : Type} (d : α) : List (Nat × α) → Nat → α
  | [], _ => d
  | (b, u) :: m, a => if a = b then u else cellRead d m a

/-- Put `v` at address `a`, keeping the addresses rising. -/
def cellInsert {α : Type} : List (Nat × α) → Nat → α → List (Nat × α)
  | [], a, v => [(a, v)]
  | (b, u) :: m, a, v =>
    if a < b then (a, v) :: (b, u) :: m
    else if a = b then (a, v) :: m
    else (b, u) :: cellInsert m a v

/-- Write `v` at address `a`. Writing what an unlisted address reads as removes the entry, so that equal memories are equal
lists. -/
def cellWrite {α : Type} [DecidableEq α] (d : α) (m : List (Nat × α)) (a : Nat) (v : α) : List (Nat × α) :=
  if v = d then m.filter (fun c => decide (c.1 ≠ a)) else cellInsert m a v

/-- The canonical form from address `lo` on: strictly rising addresses below `size`, no entry equal to `d`. -/
def cellsWfFrom {α : Type} [DecidableEq α] (d : α) (size : Nat) : Nat → List (Nat × α) → Bool
  | _, [] => true
  | lo, (b, u) :: m => decide (lo ≤ b) && decide (b < size) && decide (u ≠ d) && cellsWfFrom d size (b + 1) m

/-- One byte of a memory. -/
def Memory.read (m : Memory) (a : Nat) : Byte := cellRead Memory.unlisted m a

/-- Store one byte into a memory. -/
def Memory.write (m : Memory) (a : Nat) (v : Byte) : Memory := cellWrite Memory.unlisted m a v

/-- The canonical form of a memory of `size` bytes. -/
def Memory.wf (size : Nat) (m : Memory) : Bool := cellsWfFrom Memory.unlisted size 0 m

/-- The cells of line `y` of the picture. -/
def Picture.line (m : Picture) (y : Nat) : PictureLine := cellRead [] m y

/-- Cell (x, y) of the picture. -/
def Picture.read (m : Picture) (x y : Nat) : Colour := cellRead Picture.unlisted (Picture.line m y) x

/-- Write cell (x, y) of the picture. -/
def Picture.write (m : Picture) (x y : Nat) (v : Colour) : Picture :=
  cellWrite [] m y (cellWrite Picture.unlisted (Picture.line m y) x v)

/-- The canonical form of the picture: 240 lines of 256 cells (R45). -/
def Picture.wf (m : Picture) : Bool :=
  cellsWfFrom [] 240 0 m && m.all (fun l => cellsWfFrom Picture.unlisted 256 0 l.2)

/-- The memory that holds the bytes of a list at addresses `lo`, `lo + 1`, …. -/
def bytesFrom : Nat → List Byte → Memory
  | _, [] => []
  | lo, v :: rest => if v = Memory.unlisted then bytesFrom (lo + 1) rest else (lo, v) :: bytesFrom (lo + 1) rest

/-- The memory that holds the bytes of a list at addresses 0, 1, …. -/
def Memory.ofBytes (bytes : List Byte) : Memory := bytesFrom 0 bytes

end Sys2Proof.Machine
end

