-- ==== Sys2Proof/Machine/Cartridge.lean ====
section
/-! DEFINITION. The cartridge and mapper 000 (spec/20_memory.md rules R80 to R88): address translation, buffer accesses with
their hit or miss, and construction from an iNES image. -/

namespace Sys2Proof.Machine

/-- Mapper 000's CPU translation, the same for reads and writes (R82). -/
def cpuMap (c : Cartridge) (a : Word) : Option Nat :=
  if 0x8000 ≤ a.toNat then
    if c.nPrg = 1 then some (a &&& 0x3FFF#16).toNat
    else if 2 ≤ c.nPrg then some (a &&& 0x7FFF#16).toNat
    else none
  else none

/-- Mapper 000's PPU read translation (R87). -/
def ppuMapRead (_c : Cartridge) (a : PpuAddr) : Option Nat :=
  if a.toNat ≤ 0x1FFF then some a.toNat else none

/-- Mapper 000's PPU write translation: a hit only when CHR is RAM (R88). -/
def ppuMapWrite (c : Cartridge) (a : PpuAddr) : Option Nat :=
  if a.toNat ≤ 0x1FFF ∧ c.nChr = 0 then some a.toNat else none

/-- `cart.CpuRead` (R80): a byte on a hit. With no cartridge every access misses (log entry 11). -/
def cartCpuRead (cart : Option Cartridge) (a : Word) : Option Byte :=
  match cart with
  | none => none
  | some c => (cpuMap c a).map (Memory.read c.prg)

/-- `cart.CpuWrite` (R83): the cartridge after a hit. Under IGNORE the write hits and changes nothing. -/
def cartCpuWrite (mode : PrgWrite) (cart : Option Cartridge) (a : Word) (v : Byte) : Option Cartridge :=
  match cart with
  | none => none
  | some c =>
    match cpuMap c a with
    | none => none
    | some o =>
      match mode with
      | .writeThrough => some { c with prg := Memory.write c.prg o v }
      | .ignore => some c

/-- `cart.PpuRead` (R80, R87). -/
def cartPpuRead (cart : Option Cartridge) (a : PpuAddr) : Option Byte :=
  match cart with
  | none => none
  | some c => (ppuMapRead c a).map (Memory.read c.chr)

/-- `cart.PpuWrite` (R81, R88): the cartridge after a hit. -/
def cartPpuWrite (cart : Option Cartridge) (a : PpuAddr) (v : Byte) : Option Cartridge :=
  match cart with
  | none => none
  | some c => (ppuMapWrite c a).map (fun o => { c with chr := Memory.write c.chr o v })

/-- The distinct load errors of R85. -/
inductive LoadError where
  /-- Bytes 0 to 3 are not the magic. -/
  | badMagic
  /-- The image ends before the header, the trainer, PRG or CHR it declares. -/
  | truncated
  /-- `mapper_id` is not 0. -/
  | unsupportedMapper
  /-- `n_prg` is 0 (D31). -/
  | noPrgBank
deriving DecidableEq, Repr

/-- "NES" followed by 0x1A (R85). -/
def imageMagic : List Byte := [0x4E#8, 0x45#8, 0x53#8, 0x1A#8]

/-- `mapper_id = (flags7 & 0xF0) | (flags6 >> 4)` (R84). -/
def imageMapperId (flags6 flags7 : Byte) : Byte := (flags7 &&& 0xF0#8) ||| (flags6 >>> 4)

/-- `mirror = Vertical` if `flags6[0] = 1`, else `Horizontal` (R84). -/
def imageMirror (flags6 : Byte) : Mirror := if flags6.getLsbD 0 then .vertical else .horizontal

/-- The 512 bytes a set trainer bit, `flags6[2]`, makes the loader skip (R84). -/
def trainerLength (flags6 : Byte) : Nat := if flags6.getLsbD 2 then 512 else 0

/-- Construct a cartridge from an image (R84), or say why it cannot be done (R85). Bytes after the declared CHR are ignored, and
where several errors hold the first test below names it (log entry 9). -/
def loadImage (image : List Byte) : Except LoadError Cartridge :=
  let nPrg := (image.getD 4 0x00#8).toNat
  let nChr := (image.getD 5 0x00#8).toNat
  let flags6 := image.getD 6 0x00#8
  let flags7 := image.getD 7 0x00#8
  let body := image.drop (16 + trainerLength flags6)
  if image.length < 16 then .error .truncated
  else if image.take 4 ≠ imageMagic then .error .badMagic
  else if imageMapperId flags6 flags7 ≠ 0x00#8 then .error .unsupportedMapper
  else if nPrg = 0 then .error .noPrgBank
  else if image.length < 16 + trainerLength flags6 + nPrg * 16384 + nChr * 8192 then .error .truncated
  else .ok
    { nPrg := nPrg
      nChr := nChr
      mapperId := imageMapperId flags6 flags7
      mirror := imageMirror flags6
      prg := Memory.ofBytes (body.take (nPrg * 16384))
      chr := Memory.ofBytes ((body.drop (nPrg * 16384)).take (nChr * 8192)) }

end Sys2Proof.Machine
end

