-- ==== Sys2Proof/Machine/Loopy.lean ====
section
/-! DEFINITION. The fields of the loopy registers `v` and `t` (spec/10_state.md rule R37): coarse X in bits 4-0, coarse Y in
9-5, nametable X in 10, nametable Y in 11, fine Y in 14-12. -/

namespace Sys2Proof.Machine

/-- `coarse_x`, bits 4-0 (R37). -/
def coarseX (v : Loopy) : BitVec 5 := v.extractLsb' 0 5

/-- `coarse_y`, bits 9-5 (R37). -/
def coarseY (v : Loopy) : BitVec 5 := v.extractLsb' 5 5

/-- `nametable_x`, bit 10 (R37). -/
def nametableX (v : Loopy) : Bool := v.getLsbD 10

/-- `nametable_y`, bit 11 (R37). -/
def nametableY (v : Loopy) : Bool := v.getLsbD 11

/-- `fine_y`, bits 14-12 (R37). -/
def fineY (v : Loopy) : BitVec 3 := v.extractLsb' 12 3

/-- Write `coarse_x`. -/
def withCoarseX (f : BitVec 5) (v : Loopy) : Loopy := (v &&& 0x7FE0#15) ||| f.setWidth 15

/-- Write `coarse_y`. -/
def withCoarseY (f : BitVec 5) (v : Loopy) : Loopy := (v &&& 0x7C1F#15) ||| (f.setWidth 15 <<< 5)

/-- Write `nametable_x`. -/
def withNametableX (on : Bool) (v : Loopy) : Loopy := (v &&& 0x7BFF#15) ||| (if on then 0x0400#15 else 0x0000#15)

/-- Write `nametable_y`. -/
def withNametableY (on : Bool) (v : Loopy) : Loopy := (v &&& 0x77FF#15) ||| (if on then 0x0800#15 else 0x0000#15)

/-- Write `fine_y`. -/
def withFineY (f : BitVec 3) (v : Loopy) : Loopy := (v &&& 0x0FFF#15) ||| (f.setWidth 15 <<< 12)

end Sys2Proof.Machine
end

