-- ==== Sys2Proof/Machine/PpuBus.lean ====
section
/-! DEFINITION. The fields of PPUCTRL and PPUMASK (spec/10_state.md rules R34, R35) and the PPU's own 14-bit bus
(spec/20_memory.md rules R89 to R95): cartridge CHR, internal pattern tables, mirrored nametables, palette. -/

namespace Sys2Proof.Machine

/-- `ctrl.increment_mode` (R34). -/
def Ppu.incrementMode (p : Ppu) : Bool := p.ctrl.getLsbD 2

/-- `ctrl.pattern_background` (R34). -/
def Ppu.patternBackground (p : Ppu) : Bool := p.ctrl.getLsbD 4

/-- `ctrl.enable_nmi` (R34). -/
def Ppu.enableNmi (p : Ppu) : Bool := p.ctrl.getLsbD 7

/-- `mask.grayscale` (R35). -/
def Ppu.grayscale (p : Ppu) : Bool := p.mask.getLsbD 0

/-- `mask.render_background_left` (R35). -/
def Ppu.renderBackgroundLeft (p : Ppu) : Bool := p.mask.getLsbD 1

/-- `mask.render_background` (R35). -/
def Ppu.renderBackground (p : Ppu) : Bool := p.mask.getLsbD 3

/-- `mask.render_sprites` (R35). -/
def Ppu.renderSprites (p : Ppu) : Bool := p.mask.getLsbD 4

/-- "Rendering enabled" (R15). -/
def Ppu.renderingEnabled (p : Ppu) : Bool := p.renderBackground || p.renderSprites

/-- The mirroring mode in force. With no cartridge, which only a host access can meet, it is Horizontal (log entry 11). -/
def mirrorOf (cart : Option Cartridge) : Mirror :=
  match cart with
  | none => .horizontal
  | some c => c.mirror

/-- `NtBank(addr)` (R93), true for bank 1. With `q` the quadrant `(addr & 0x0FFF) >> 10`, `q >> 1` is bit 11 of the address and
`q & 1` is bit 10. -/
def ntBank (m : Mirror) (a : PpuAddr) : Bool :=
  match m with
  | .horizontal => a.getLsbD 11
  | .vertical => a.getLsbD 10
  | .oneScreenLo => false
  | .oneScreenHi => true

/-- The offset of a nametable byte inside its bank, `addr & 0x03FF` (R90). -/
def ntOffset (a : PpuAddr) : Nat := (a &&& 0x03FF#14).toNat

/-- The palette byte an address of 0x3F00-0x3FFF reaches: `addr & 0x1F`, with 0x10, 0x14, 0x18, 0x1C folded down by 0x10 (R95). -/
def paletteIndex (a : PpuAddr) : Nat :=
  let p := (a &&& 0x001F#14).toNat
  if p = 0x10 ∨ p = 0x14 ∨ p = 0x18 ∨ p = 0x1C then p - 0x10 else p

/-- `PaletteRead` (R95). -/
def paletteRead (a : PpuAddr) (p : Ppu) : Byte :=
  Memory.read p.palette (paletteIndex a) &&& (if p.grayscale then 0x30#8 else 0x3F#8)

/-- `PaletteWrite` (R95): all 8 bits are stored. -/
def paletteWrite (a : PpuAddr) (d : Byte) (p : Ppu) : Ppu :=
  { p with palette := Memory.write p.palette (paletteIndex a) d }

/-- The internal pattern-table byte of a pattern address (R90, R92). -/
def patternRead (a : PpuAddr) (p : Ppu) : Byte :=
  Memory.read (if a.getLsbD 12 then p.pattern1 else p.pattern0) (a &&& 0x0FFF#14).toNat

/-- A write into the internal pattern tables (R91, R92). -/
def patternWrite (a : PpuAddr) (d : Byte) (p : Ppu) : Ppu :=
  if a.getLsbD 12 then { p with pattern1 := Memory.write p.pattern1 (a &&& 0x0FFF#14).toNat d }
  else { p with pattern0 := Memory.write p.pattern0 (a &&& 0x0FFF#14).toNat d }

/-- A nametable byte under a mirroring mode (R90, R93). -/
def nametableRead (m : Mirror) (a : PpuAddr) (p : Ppu) : Byte :=
  Memory.read (if ntBank m a then p.nametable1 else p.nametable0) (ntOffset a)

/-- A nametable write under a mirroring mode (R91, R93). -/
def nametableWrite (m : Mirror) (a : PpuAddr) (d : Byte) (p : Ppu) : Ppu :=
  if ntBank m a then { p with nametable1 := Memory.write p.nametable1 (ntOffset a) d }
  else { p with nametable0 := Memory.write p.nametable0 (ntOffset a) d }

/-- `PpuRead(addr)` on an address already reduced to 14 bits (R89, R90). It has no side effect. -/
def ppuRead (a : PpuAddr) (s : State) : Byte :=
  match cartPpuRead s.cart a with
  | some d => d
  | none =>
    if a.toNat ≤ 0x1FFF then patternRead a s.ppu
    else if a.toNat ≤ 0x3EFF then nametableRead (mirrorOf s.cart) a s.ppu
    else paletteRead a s.ppu

/-- `PpuWrite(addr, v)` (R91). -/
def ppuWrite (a : PpuAddr) (d : Byte) (s : State) : State :=
  match cartPpuWrite s.cart a d with
  | some c => { s with cart := some c }
  | none =>
    if a.toNat ≤ 0x1FFF then { s with ppu := patternWrite a d s.ppu }
    else if a.toNat ≤ 0x3EFF then { s with ppu := nametableWrite (mirrorOf s.cart) a d s.ppu }
    else { s with ppu := paletteWrite a d s.ppu }

end Sys2Proof.Machine
end

