-- ==== Sys2Proof/Machine/PpuPorts.lean ====
section
/-! DEFINITION. The PPU's eight CPU ports (spec/61_ppu_registers.md): what a read returns and changes, what a write changes,
and the host's view without side effects. -/

namespace Sys2Proof.Machine

/-- The eight ports (R360). -/
inductive PpuPort where
  | ctrl | mask | status | oamAddr | oamData | scroll | addr | data
deriving DecidableEq, Repr

/-- The port a CPU address of 0x2000-0x3FFF reaches: `addr & 0x0007` (R75, R360). -/
def portOf (a : Word) : PpuPort :=
  match (a &&& 0x0007#16).toNat with
  | 0 => .ctrl
  | 1 => .mask
  | 2 => .status
  | 3 => .oamAddr
  | 4 => .oamData
  | 5 => .scroll
  | 6 => .addr
  | _ => .data

/-- The byte of a PPUSTATUS read: the flags and the stale buffer bits (R364). -/
def statusByte (p : Ppu) : Byte := (p.status &&& 0xE0#8) ||| (p.dataBuffer &&& 0x1F#8)

/-- `StatusRead()` (R364): clears `vertical_blank` and `w`. -/
def statusRead (s : State) : Byte × State :=
  (statusByte s.ppu, { s with ppu := { s.ppu with status := s.ppu.status &&& 0x7F#8, w := false } })

/-- `CtrlWrite(d)` (R363). -/
def ctrlWrite (d : Byte) (p : Ppu) : Ppu :=
  { p with ctrl := d, t := withNametableY (d.getLsbD 1) (withNametableX (d.getLsbD 0) p.t) }

/-- The byte OAMDATA reads (R368). -/
def oamByte (p : Ppu) : Byte := Memory.read p.oam p.oamAddr.toNat

/-- A write to OAMDATA; `oam_addr` stays (R369). -/
def oamWrite (d : Byte) (p : Ppu) : Ppu := { p with oam := Memory.write p.oam p.oamAddr.toNat d }

/-- `ScrollWrite(d)` (R371). -/
def scrollWrite (d : Byte) (p : Ppu) : Ppu :=
  if p.w then
    { p with t := withCoarseY ((d >>> 3).setWidth 5) (withFineY ((d &&& 0x07#8).setWidth 3) p.t), w := false }
  else
    { p with fineX := (d &&& 0x07#8).setWidth 3, t := withCoarseX ((d >>> 3).setWidth 5) p.t, w := true }

/-- `AddrWrite(d)` (R372). -/
def addrWrite (d : Byte) (p : Ppu) : Ppu :=
  if p.w then
    let t := (p.t &&& 0x7F00#15) ||| d.setWidth 15
    { p with t := t, v := t, w := false }
  else
    { p with t := ((d &&& 0x3F#8).setWidth 15 <<< 8) ||| (p.t &&& 0x00FF#15), w := true }

/-- `Increment()` (R375). -/
def incrementV (p : Ppu) : Ppu := { p with v := p.v + (if p.incrementMode then 32#15 else 1#15) }

/-- The PPU-bus address of a PPUDATA access, `v & 0x3FFF`. -/
def dataAddress (p : Ppu) : PpuAddr := p.v.setWidth 14

/-- The byte a PPUDATA read returns: the buffer, or in palette space the palette byte at once (R373). -/
def dataByte (s : State) : Byte :=
  if 0x3F00 ≤ (dataAddress s.ppu).toNat then ppuRead (dataAddress s.ppu) s else s.ppu.dataBuffer

/-- `DataRead()` (R373). -/
def dataRead (s : State) : Byte × State :=
  (dataByte s, { s with ppu := incrementV { s.ppu with dataBuffer := ppuRead (dataAddress s.ppu) s } })

/-- `DataWrite(d)` (R374). -/
def dataWrite (d : Byte) (s : State) : State :=
  let s' := ppuWrite (dataAddress s.ppu) d s
  { s' with ppu := incrementV s'.ppu }

/-- `PpuPortRead(p)` (R361, R366). -/
def ppuPortRead (port : PpuPort) (s : State) : Byte × State :=
  match port with
  | .status => statusRead s
  | .oamData => (oamByte s.ppu, s)
  | .data => dataRead s
  | .ctrl | .mask | .oamAddr | .scroll | .addr => (0x00#8, s)

/-- `PpuPortWrite(p, d)` (R362). -/
def ppuPortWrite (port : PpuPort) (d : Byte) (s : State) : State :=
  match port with
  | .ctrl => { s with ppu := ctrlWrite d s.ppu }
  | .mask => { s with ppu := { s.ppu with mask := d } }
  | .status => s
  | .oamAddr => { s with ppu := { s.ppu with oamAddr := d } }
  | .oamData => { s with ppu := oamWrite d s.ppu }
  | .scroll => { s with ppu := scrollWrite d s.ppu }
  | .addr => { s with ppu := addrWrite d s.ppu }
  | .data => dataWrite d s

/-- `Peek` of a port: the value a read would return, and no side effect (R378). -/
def ppuPortPeek (port : PpuPort) (s : State) : Byte :=
  match port with
  | .status => statusByte s.ppu
  | .oamData => oamByte s.ppu
  | .data =>
    if 0x3F00 ≤ (dataAddress s.ppu).toNat then paletteRead (dataAddress s.ppu) s.ppu else s.ppu.dataBuffer
  | .ctrl | .mask | .oamAddr | .scroll | .addr => 0x00#8

end Sys2Proof.Machine
end

