-- ==== Sys2Proof/Machine/Ops.lean ====
section
/-! DEFINITION. The named operations over registers and memory: writing one CPU register, the CPU bus (spec/20_memory.md
rules R70 to R78), the stack (R171), taking an interrupt and returning from one (spec/60_exceptions.md R330 to R332,
spec/43_control_transfer.md R256, R259). -/

namespace Sys2Proof.Machine

/-! ### One CPU register at a time -/

/-- Write A. -/
def State.setA (v : Byte) (s : State) : State := { s with cpu := { s.cpu with a := v } }

/-- Write X. -/
def State.setX (v : Byte) (s : State) : State := { s with cpu := { s.cpu with x := v } }

/-- Write Y. -/
def State.setY (v : Byte) (s : State) : State := { s with cpu := { s.cpu with y := v } }

/-- Write S. -/
def State.setS (v : Byte) (s : State) : State := { s with cpu := { s.cpu with s := v } }

/-- Write P. -/
def State.setP (v : Byte) (s : State) : State := { s with cpu := { s.cpu with p := v } }

/-- Write PC. -/
def State.setPc (v : Word) (s : State) : State := { s with cpu := { s.cpu with pc := v } }

/-- Write the countdown `cycles`. -/
def State.setCycles (n : Nat) (s : State) : State := { s with cpu := { s.cpu with cycles := n } }

/-- Write the latch `opcode`. -/
def State.setOpcode (v : Byte) (s : State) : State := { s with cpu := { s.cpu with opcode := v } }

/-- Write the latch `addr_abs`. -/
def State.setAddrAbs (v : Word) (s : State) : State := { s with cpu := { s.cpu with addrAbs := v } }

/-- Write the latch `addr_rel`. -/
def State.setAddrRel (v : Word) (s : State) : State := { s with cpu := { s.cpu with addrRel := v } }

/-- Write the latch `fetched`. -/
def State.setFetched (v : Byte) (s : State) : State := { s with cpu := { s.cpu with fetched := v } }

/-- `P.U <- 1` (R23, R150). -/
def forceUnused (s : State) : State := s.setP (setFlag .u true s.cpu.p)

/-- Go on from an answer: `f` is applied to a next state, a fault or a refusal stays. -/
def Result.andThen (r : Result) (f : State → State) : Result :=
  match r with
  | .next s => .next (f s)
  | .fault e => .fault e
  | .refused e => .refused e

/-! ### The CPU bus -/

/-- `(hi << 8) | lo` (R8, R96). -/
def wordOf (lo hi : Byte) : Word := hi ++ lo

/-- The low byte of a word. -/
def lowByte (w : Word) : Byte := w.setWidth 8

/-- The high byte of a word, `w >> 8`. -/
def highByte (w : Word) : Byte := (w >>> 8).setWidth 8

/-- The RAM offset of a CPU address of 0x0000-0x1FFF: `addr & 0x07FF` (R74). -/
def ramOffset (a : Word) : Nat := (a &&& 0x07FF#16).toNat

/-- The bus with one RAM byte written (R72, R74). -/
def ramWrite (a : Word) (v : Byte) (s : State) : State :=
  { s with bus := { s.bus with ram := Memory.write s.bus.ram (ramOffset a) v } }

/-- The two controller ports. -/
inductive Controller where
  | first
  | second
deriving DecidableEq, Repr

/-- The controller port of CPU address 0x4016 or 0x4017: `addr & 0x0001` (R71). -/
def controllerOf (a : Word) : Controller := if a.getLsbD 0 then .second else .first

/-- The shift latch of a controller port (R31). -/
def controllerLatch (c : Controller) (b : Bus) : Byte :=
  match c with
  | .first => b.controllerState0
  | .second => b.controllerState1

/-- The bit a controller read returns, as the byte 0x00 or 0x01 (R77). -/
def controllerBit (latch : Byte) : Byte := latch >>> 7

/-- `ControllerRead(p)` (R77): return bit 7 and shift the latch left. -/
def controllerRead (c : Controller) (s : State) : Byte × State :=
  match c with
  | .first =>
    (controllerBit s.bus.controllerState0,
      { s with bus := { s.bus with controllerState0 := s.bus.controllerState0 <<< 1 } })
  | .second =>
    (controllerBit s.bus.controllerState1,
      { s with bus := { s.bus with controllerState1 := s.bus.controllerState1 <<< 1 } })

/-- `ControllerWrite(p)` (R78): latch the host's snapshot of that controller. -/
def controllerWrite (c : Controller) (s : State) : State :=
  match c with
  | .first => { s with bus := { s.bus with controllerState0 := s.bus.controllerInput0 } }
  | .second => { s with bus := { s.bus with controllerState1 := s.bus.controllerInput1 } }

/-- `DmaStart(d)` (R461). `dma_dummy` is not written. -/
def dmaStart (d : Byte) (s : State) : State :=
  { s with bus := { s.bus with dmaPage := d, dmaAddr := 0x00#8, dmaTransfer := true } }

/-- `MemRead(addr, 1)` (R71): the byte read and the state after its side effects. -/
def memRead (a : Word) (s : State) : Byte × State :=
  match cartCpuRead s.cart a with
  | some d => (d, s)
  | none =>
    if a.toNat ≤ 0x1FFF then (Memory.read s.bus.ram (ramOffset a), s)
    else if 0x2000 ≤ a.toNat ∧ a.toNat ≤ 0x3FFF then ppuPortRead (portOf a) s
    else if 0x4016 ≤ a.toNat ∧ a.toNat ≤ 0x4017 then controllerRead (controllerOf a) s
    else (0x00#8, s)

/-- `MemWrite(addr, 1, v)` (R72). -/
def memWrite (a : Word) (v : Byte) (s : State) : State :=
  match cartCpuWrite s.config.prgWrite s.cart a v with
  | some c => { s with cart := some c }
  | none =>
    if a.toNat ≤ 0x1FFF then ramWrite a v s
    else if 0x2000 ≤ a.toNat ∧ a.toNat ≤ 0x3FFF then ppuPortWrite (portOf a) v s
    else if a.toNat = 0x4014 then dmaStart v s
    else if 0x4016 ≤ a.toNat ∧ a.toNat ≤ 0x4017 then controllerWrite (controllerOf a) s
    else s

/-- `Peek(addr)` (R76): the host's read with no side effect. -/
def peek (a : Word) (s : State) : Byte :=
  match cartCpuRead s.cart a with
  | some d => d
  | none =>
    if a.toNat ≤ 0x1FFF then Memory.read s.bus.ram (ramOffset a)
    else if 0x2000 ≤ a.toNat ∧ a.toNat ≤ 0x3FFF then ppuPortPeek (portOf a) s
    else if 0x4016 ≤ a.toNat ∧ a.toNat ≤ 0x4017 then controllerBit (controllerLatch (controllerOf a) s.bus)
    else 0x00#8

/-- A little-endian word read as two accesses, the byte at `lo` first (R96, D34). -/
def memReadWord (lo hi : Word) (s : State) : Word × State :=
  let l := memRead lo s
  let h := memRead hi l.2
  (wordOf l.1 h.1, h.2)

/-! ### The stack -/

/-- The CPU address of the stack byte `S` indexes: `0x0100 | S` (R21, R170). -/
def stackAddress (s : Byte) : Word := 0x0100#16 ||| s.setWidth 16

/-- `Push(v)` (R171). -/
def push (v : Byte) (s : State) : State :=
  (memWrite (stackAddress s.cpu.s) v s).setS (s.cpu.s - 1#8)

/-- `Pull()` (R171). -/
def pull (s : State) : Byte × State :=
  memRead (stackAddress (s.cpu.s + 1#8)) (s.setS (s.cpu.s + 1#8))

/-- Push a word, high byte first, so that the low byte lies at the lower address (R96, R252, R330). -/
def pushWord (w : Word) (s : State) : State := push (lowByte w) (push (highByte w) s)

/-- Pull a word, low byte first (R254, R259). -/
def pullWord (s : State) : Word × State :=
  let l := pull s
  let h := pull l.2
  (wordOf l.1 h.1, h.2)

/-! ### Interrupts -/

/-- The NMI vector (R79). -/
def nmiVector : Word := 0xFFFA#16

/-- The reset vector (R79). -/
def resetVector : Word := 0xFFFC#16

/-- The vector IRQ and BRK share (R79). -/
def irqVector : Word := 0xFFFE#16

/-- Load PC from the vector at `vec`, `vec + 1`, low byte first (R79, D34). -/
def loadVector (vec : Word) (s : State) : State :=
  let r := memReadWord vec (vec + 1#16) s
  r.2.setPc r.1

/-- `InterruptEntry(vec, n)` (R330): push PC, change the live B, U, I, push P, load PC from the vector, start the countdown. -/
def interruptEntry (vec : Word) (n : Nat) (s : State) : State :=
  let s1 := pushWord s.cpu.pc s
  let s2 := s1.setP (setFlag .i true (setFlag .u true (setFlag .b false s1.cpu.p)))
  (loadVector vec (push s2.cpu.p s2)).setCycles n

/-- BRK's entry (R256): skip one byte, push PC and the copy of P with B and U set, set the live I, load PC from the IRQ vector. -/
def softwareInterrupt (s : State) : State :=
  let s1 := pushWord (s.cpu.pc + 1#16) (s.setPc (s.cpu.pc + 1#16))
  let s2 := push (pushedStatus s1.cpu.p) s1
  loadVector irqVector (s2.setP (setFlag .i true s2.cpu.p))

/-- RTI's return (R259): pull P and clear its B and U, then pull PC. -/
def returnFromInterrupt (s : State) : State :=
  let p := pull s
  let r := pullWord (p.2.setP (p.1 &&& ~~~0x10#8 &&& ~~~0x20#8))
  r.2.setPc r.1

/-- `nmi()` (R332): unconditional. -/
def nmi (s : State) : State := interruptEntry nmiVector 8 s

/-- `irq()` (R331): nothing while `P.I = 1`. -/
def irq (s : State) : State := if getFlag .i s.cpu.p then s else interruptEntry irqVector 7 s

end Sys2Proof.Machine
end

