-- ==== Sys2Proof/Machine/Operands.lean ====
section
/-! DEFINITION. The twelve addressing-mode routines (spec/40_execution_pipeline.md rules R155 to R167), `fetch()` (R153),
`Store(R)` (R169, R230), and the one shape of an instruction: mode routine, operation routine, extra-cycle gate (R150, R152).

An operand is the decoded operand bytes together with their mode. `PC` already points past them (R151; log entry 8). -/

namespace Sys2Proof.Machine

/-- Does the indexed address lie in another page than its base (R164)? -/
def pageCrossed (base target : Word) : Bool := decide (target &&& 0xFF00#16 ≠ base &&& 0xFF00#16)

/-- Latch an indexed address and say whether the page changed (R162, R163, R167). -/
def indexedAddress (base : Word) (index : Byte) (s : State) : Bool × State :=
  let target := base + index.setWidth 16
  (pageCrossed base target, s.setAddrAbs target)

/-- The address of the second byte of an IND pointer: a pointer whose low byte is 0xFF wraps within its page (R165). -/
def indirectHighAddress (ptr : Word) : Word :=
  if ptr &&& 0x00FF#16 = 0x00FF#16 then ptr &&& 0xFF00#16 else ptr + 1#16

/-- The addressing-mode routine of an operand: it sets `addr_abs`, `addr_rel` or `fetched`, makes the pointer reads, and
returns its request for an extra cycle (R155 to R167). -/
def addressing (o : Operand) (s : State) : Bool × State :=
  match o with
  | .imp => (false, s.setFetched s.cpu.a)
  | .imm _ => (false, s.setAddrAbs (s.cpu.pc - 1#16))
  | .zp0 z => (false, s.setAddrAbs (z.setWidth 16))
  | .zpx z => (false, s.setAddrAbs ((z + s.cpu.x).setWidth 16))
  | .zpy z => (false, s.setAddrAbs ((z + s.cpu.y).setWidth 16))
  | .rel r => (false, s.setAddrRel (BitVec.ofInt 16 r))
  | .abs a => (false, s.setAddrAbs a)
  | .abx a => indexedAddress a s.cpu.x s
  | .aby a => indexedAddress a s.cpu.y s
  | .ind a =>
    let r := memReadWord a (indirectHighAddress a) s
    (false, r.2.setAddrAbs r.1)
  | .izx z =>
    let r := memReadWord ((z + s.cpu.x).setWidth 16) ((z + s.cpu.x + 1#8).setWidth 16) s
    (false, r.2.setAddrAbs r.1)
  | .izy z =>
    let r := memReadWord (z.setWidth 16) ((z + 1#8).setWidth 16) s
    indexedAddress r.1 r.2.cpu.y r.2

/-- `fetch()` (R153): the accumulator latched by IMP, the immediate byte (already read from `addr_abs` with the other operand
bytes, log entry 8), or one read of `addr_abs`. -/
def fetchOperand (o : Operand) (s : State) : Byte × State :=
  match o with
  | .imp => (s.cpu.fetched, s)
  | .imm b => (b, s.setFetched b)
  | .zp0 _ | .zpx _ | .zpy _ | .rel _ | .abs _ | .abx _ | .aby _ | .ind _ | .izx _ | .izy _ =>
    let r := memRead s.cpu.addrAbs s
    (r.1, r.2.setFetched r.1)

/-- `Store(R)` (R169, R230): A in mode IMP, otherwise the byte at `addr_abs`. -/
def storeResult (o : Operand) (v : Byte) (s : State) : State :=
  match o with
  | .imp => s.setA v
  | .imm _ | .zp0 _ | .zpx _ | .zpy _ | .rel _ | .abs _ | .abx _ | .aby _ | .ind _ | .izx _ | .izy _ =>
    memWrite s.cpu.addrAbs v s

/-- An operation routine: it sees its operand (for the mode test of R153 and R169) and returns its own request for an extra
cycle (R12, R152). -/
abbrev Operation := Operand → State → Bool × State

/-- The instruction-start part of `CpuClock()` after the fetch (R150): load the base cycle count, run the mode routine and the
operation routine, add the extra cycle if BOTH requested it (R152), force U. -/
def runInstr (base : Nat) (o : Operand) (op : Operation) (s : State) : State :=
  let mode := addressing o (s.setCycles base)
  let done := op o mode.2
  forceUnused (done.2.setCycles (done.2.cpu.cycles + (mode.1 && done.1).toNat))

end Sys2Proof.Machine
end

