-- ==== Sys2Proof/Machine/ArithmeticLogic.lean ====
section
/-! DEFINITION. Arithmetic, logic, compare, increment and decrement (spec/41_arithmetic_logic.md): the operation routines and the
meaning of every row. -/

namespace Sys2Proof.Machine

/-- ADC (R201). -/
def opAdc : Operation := fun o s =>
  let f := fetchOperand o s
  let c := f.2.cpu
  (true, (f.2.setA (addResult c.a f.1 c.p)).setP (addFlags c.a f.1 c.p))

/-- SBC (R202): the addition of `M ^ 0xFF`. -/
def opSbc : Operation := fun o s =>
  let f := fetchOperand o s
  let c := f.2.cpu
  (true, (f.2.setA (addResult c.a (subOperand f.1) c.p)).setP (subFlags c.a f.1 c.p))

/-- A logical operation on A: `A <- g(A, fetch()); SetZN(A)`; return 1. -/
def logicOnA (g : Byte → Byte → Byte) : Operation := fun o s =>
  let f := fetchOperand o s
  let r := g f.2.cpu.a f.1
  (true, (f.2.setA r).setP (setZN r f.2.cpu.p))

/-- AND (R203). -/
def opAnd : Operation := logicOnA (fun a m => a &&& m)

/-- ORA (R204). -/
def opOra : Operation := logicOnA (fun a m => a ||| m)

/-- EOR (R205). -/
def opEor : Operation := logicOnA (fun a m => a ^^^ m)

/-- BIT (R206). -/
def opBit : Operation := fun o s =>
  let f := fetchOperand o s
  (false, f.2.setP (bitFlags f.2.cpu.a f.1 f.2.cpu.p))

/-- A comparison of a register with the operand (R207 to R209); `extra` is the routine's request. -/
def compareWith (reg : Cpu → Byte) (extra : Bool) : Operation := fun o s =>
  let f := fetchOperand o s
  (extra, f.2.setP (compareFlags (reg f.2.cpu) f.1 f.2.cpu.p))

/-- CMP (R207). -/
def opCmp : Operation := compareWith Cpu.a true

/-- CPX (R208). -/
def opCpx : Operation := compareWith Cpu.x false

/-- CPY (R209). -/
def opCpy : Operation := compareWith Cpu.y false

/-- A read-modify-write of memory that writes Z and N: one read, then one write of `addr_abs` (R210, R211). -/
def modifyMemory (g : Byte → Byte) : Operation := fun o s =>
  let f := fetchOperand o s
  let r := g f.1
  let w := memWrite f.2.cpu.addrAbs r f.2
  (false, w.setP (setZN r w.cpu.p))

/-- INC (R210). -/
def opInc : Operation := modifyMemory (fun m => m + 1#8)

/-- DEC (R211). -/
def opDec : Operation := modifyMemory (fun m => m - 1#8)

/-- Write a value to X and set Z and N. -/
def loadX (v : Byte) (s : State) : State := (s.setX v).setP (setZN v s.cpu.p)

/-- Write a value to Y and set Z and N. -/
def loadY (v : Byte) (s : State) : State := (s.setY v).setP (setZN v s.cpu.p)

/-- Write a value to A and set Z and N. -/
def loadA (v : Byte) (s : State) : State := (s.setA v).setP (setZN v s.cpu.p)

/-- INX (R212). -/
def opInx : Operation := fun _ s => (false, loadX (s.cpu.x + 1#8) s)

/-- INY (R213). -/
def opIny : Operation := fun _ s => (false, loadY (s.cpu.y + 1#8) s)

/-- DEX (R214). -/
def opDex : Operation := fun _ s => (false, loadX (s.cpu.x - 1#8) s)

/-- DEY (R215). -/
def opDey : Operation := fun _ s => (false, loadY (s.cpu.y - 1#8) s)

/-- 0x61 ADC IZX, 6 cycles (R201). -/
def execAdcIzx (z : Byte) (s : State) : Result := .next (runInstr 6 (.izx z) opAdc s)

/-- 0x65 ADC ZP0, 3 cycles (R201). -/
def execAdcZp0 (z : Byte) (s : State) : Result := .next (runInstr 3 (.zp0 z) opAdc s)

/-- 0x69 ADC IMM, 2 cycles (R201). -/
def execAdcImm (b : Byte) (s : State) : Result := .next (runInstr 2 (.imm b) opAdc s)

/-- 0x6D ADC ABS, 4 cycles (R201). -/
def execAdcAbs (a : Word) (s : State) : Result := .next (runInstr 4 (.abs a) opAdc s)

/-- 0x71 ADC IZY, 5+p cycles (R201). -/
def execAdcIzy (z : Byte) (s : State) : Result := .next (runInstr 5 (.izy z) opAdc s)

/-- 0x75 ADC ZPX, 4 cycles (R201). -/
def execAdcZpx (z : Byte) (s : State) : Result := .next (runInstr 4 (.zpx z) opAdc s)

/-- 0x79 ADC ABY, 4+p cycles (R201). -/
def execAdcAby (a : Word) (s : State) : Result := .next (runInstr 4 (.aby a) opAdc s)

/-- 0x7D ADC ABX, 4+p cycles (R201). -/
def execAdcAbx (a : Word) (s : State) : Result := .next (runInstr 4 (.abx a) opAdc s)

/-- 0xE1 SBC IZX, 6 cycles (R202). -/
def execSbcIzx (z : Byte) (s : State) : Result := .next (runInstr 6 (.izx z) opSbc s)

/-- 0xE5 SBC ZP0, 3 cycles (R202). -/
def execSbcZp0 (z : Byte) (s : State) : Result := .next (runInstr 3 (.zp0 z) opSbc s)

/-- 0xE9 SBC IMM, 2 cycles (R202). -/
def execSbcImm (b : Byte) (s : State) : Result := .next (runInstr 2 (.imm b) opSbc s)

/-- 0xED SBC ABS, 4 cycles (R202). -/
def execSbcAbs (a : Word) (s : State) : Result := .next (runInstr 4 (.abs a) opSbc s)

/-- 0xF1 SBC IZY, 5+p cycles (R202). -/
def execSbcIzy (z : Byte) (s : State) : Result := .next (runInstr 5 (.izy z) opSbc s)

/-- 0xF5 SBC ZPX, 4 cycles (R202). -/
def execSbcZpx (z : Byte) (s : State) : Result := .next (runInstr 4 (.zpx z) opSbc s)

/-- 0xF9 SBC ABY, 4+p cycles (R202). -/
def execSbcAby (a : Word) (s : State) : Result := .next (runInstr 4 (.aby a) opSbc s)

/-- 0xFD SBC ABX, 4+p cycles (R202). -/
def execSbcAbx (a : Word) (s : State) : Result := .next (runInstr 4 (.abx a) opSbc s)

/-- 0x21 AND IZX, 6 cycles (R203). -/
def execAndIzx (z : Byte) (s : State) : Result := .next (runInstr 6 (.izx z) opAnd s)

/-- 0x25 AND ZP0, 3 cycles (R203). -/
def execAndZp0 (z : Byte) (s : State) : Result := .next (runInstr 3 (.zp0 z) opAnd s)

/-- 0x29 AND IMM, 2 cycles (R203). -/
def execAndImm (b : Byte) (s : State) : Result := .next (runInstr 2 (.imm b) opAnd s)

/-- 0x2D AND ABS, 4 cycles (R203). -/
def execAndAbs (a : Word) (s : State) : Result := .next (runInstr 4 (.abs a) opAnd s)

/-- 0x31 AND IZY, 5+p cycles (R203). -/
def execAndIzy (z : Byte) (s : State) : Result := .next (runInstr 5 (.izy z) opAnd s)

/-- 0x35 AND ZPX, 4 cycles (R203). -/
def execAndZpx (z : Byte) (s : State) : Result := .next (runInstr 4 (.zpx z) opAnd s)

/-- 0x39 AND ABY, 4+p cycles (R203). -/
def execAndAby (a : Word) (s : State) : Result := .next (runInstr 4 (.aby a) opAnd s)

/-- 0x3D AND ABX, 4+p cycles (R203). -/
def execAndAbx (a : Word) (s : State) : Result := .next (runInstr 4 (.abx a) opAnd s)

/-- 0x01 ORA IZX, 6 cycles (R204). -/
def execOraIzx (z : Byte) (s : State) : Result := .next (runInstr 6 (.izx z) opOra s)

/-- 0x05 ORA ZP0, 3 cycles (R204). -/
def execOraZp0 (z : Byte) (s : State) : Result := .next (runInstr 3 (.zp0 z) opOra s)

/-- 0x09 ORA IMM, 2 cycles (R204). -/
def execOraImm (b : Byte) (s : State) : Result := .next (runInstr 2 (.imm b) opOra s)

/-- 0x0D ORA ABS, 4 cycles (R204). -/
def execOraAbs (a : Word) (s : State) : Result := .next (runInstr 4 (.abs a) opOra s)

/-- 0x11 ORA IZY, 5+p cycles (R204). -/
def execOraIzy (z : Byte) (s : State) : Result := .next (runInstr 5 (.izy z) opOra s)

/-- 0x15 ORA ZPX, 4 cycles (R204). -/
def execOraZpx (z : Byte) (s : State) : Result := .next (runInstr 4 (.zpx z) opOra s)

/-- 0x19 ORA ABY, 4+p cycles (R204). -/
def execOraAby (a : Word) (s : State) : Result := .next (runInstr 4 (.aby a) opOra s)

/-- 0x1D ORA ABX, 4+p cycles (R204). -/
def execOraAbx (a : Word) (s : State) : Result := .next (runInstr 4 (.abx a) opOra s)

/-- 0x41 EOR IZX, 6 cycles (R205). -/
def execEorIzx (z : Byte) (s : State) : Result := .next (runInstr 6 (.izx z) opEor s)

/-- 0x45 EOR ZP0, 3 cycles (R205). -/
def execEorZp0 (z : Byte) (s : State) : Result := .next (runInstr 3 (.zp0 z) opEor s)

/-- 0x49 EOR IMM, 2 cycles (R205). -/
def execEorImm (b : Byte) (s : State) : Result := .next (runInstr 2 (.imm b) opEor s)

/-- 0x4D EOR ABS, 4 cycles (R205). -/
def execEorAbs (a : Word) (s : State) : Result := .next (runInstr 4 (.abs a) opEor s)

/-- 0x51 EOR IZY, 5+p cycles (R205). -/
def execEorIzy (z : Byte) (s : State) : Result := .next (runInstr 5 (.izy z) opEor s)

/-- 0x55 EOR ZPX, 4 cycles (R205). -/
def execEorZpx (z : Byte) (s : State) : Result := .next (runInstr 4 (.zpx z) opEor s)

/-- 0x59 EOR ABY, 4+p cycles (R205). -/
def execEorAby (a : Word) (s : State) : Result := .next (runInstr 4 (.aby a) opEor s)

/-- 0x5D EOR ABX, 4+p cycles (R205). -/
def execEorAbx (a : Word) (s : State) : Result := .next (runInstr 4 (.abx a) opEor s)

/-- 0x24 BIT ZP0, 3 cycles (R206). -/
def execBitZp0 (z : Byte) (s : State) : Result := .next (runInstr 3 (.zp0 z) opBit s)

/-- 0x2C BIT ABS, 4 cycles (R206). -/
def execBitAbs (a : Word) (s : State) : Result := .next (runInstr 4 (.abs a) opBit s)

/-- 0xC1 CMP IZX, 6 cycles (R207). -/
def execCmpIzx (z : Byte) (s : State) : Result := .next (runInstr 6 (.izx z) opCmp s)

/-- 0xC5 CMP ZP0, 3 cycles (R207). -/
def execCmpZp0 (z : Byte) (s : State) : Result := .next (runInstr 3 (.zp0 z) opCmp s)

/-- 0xC9 CMP IMM, 2 cycles (R207). -/
def execCmpImm (b : Byte) (s : State) : Result := .next (runInstr 2 (.imm b) opCmp s)

/-- 0xCD CMP ABS, 4 cycles (R207). -/
def execCmpAbs (a : Word) (s : State) : Result := .next (runInstr 4 (.abs a) opCmp s)

/-- 0xD1 CMP IZY, 5+p cycles (R207). -/
def execCmpIzy (z : Byte) (s : State) : Result := .next (runInstr 5 (.izy z) opCmp s)

/-- 0xD5 CMP ZPX, 4 cycles (R207). -/
def execCmpZpx (z : Byte) (s : State) : Result := .next (runInstr 4 (.zpx z) opCmp s)

/-- 0xD9 CMP ABY, 4+p cycles (R207). -/
def execCmpAby (a : Word) (s : State) : Result := .next (runInstr 4 (.aby a) opCmp s)

/-- 0xDD CMP ABX, 4+p cycles (R207). -/
def execCmpAbx (a : Word) (s : State) : Result := .next (runInstr 4 (.abx a) opCmp s)

/-- 0xE0 CPX IMM, 2 cycles (R208). -/
def execCpxImm (b : Byte) (s : State) : Result := .next (runInstr 2 (.imm b) opCpx s)

/-- 0xE4 CPX ZP0, 3 cycles (R208). -/
def execCpxZp0 (z : Byte) (s : State) : Result := .next (runInstr 3 (.zp0 z) opCpx s)

/-- 0xEC CPX ABS, 4 cycles (R208). -/
def execCpxAbs (a : Word) (s : State) : Result := .next (runInstr 4 (.abs a) opCpx s)

/-- 0xC0 CPY IMM, 2 cycles (R209). -/
def execCpyImm (b : Byte) (s : State) : Result := .next (runInstr 2 (.imm b) opCpy s)

/-- 0xC4 CPY ZP0, 3 cycles (R209). -/
def execCpyZp0 (z : Byte) (s : State) : Result := .next (runInstr 3 (.zp0 z) opCpy s)

/-- 0xCC CPY ABS, 4 cycles (R209). -/
def execCpyAbs (a : Word) (s : State) : Result := .next (runInstr 4 (.abs a) opCpy s)

/-- 0xE6 INC ZP0, 5 cycles (R210). -/
def execIncZp0 (z : Byte) (s : State) : Result := .next (runInstr 5 (.zp0 z) opInc s)

/-- 0xEE INC ABS, 6 cycles (R210). -/
def execIncAbs (a : Word) (s : State) : Result := .next (runInstr 6 (.abs a) opInc s)

/-- 0xF6 INC ZPX, 6 cycles (R210). -/
def execIncZpx (z : Byte) (s : State) : Result := .next (runInstr 6 (.zpx z) opInc s)

/-- 0xFE INC ABX, 7 cycles (R210). -/
def execIncAbx (a : Word) (s : State) : Result := .next (runInstr 7 (.abx a) opInc s)

/-- 0xC6 DEC ZP0, 5 cycles (R211). -/
def execDecZp0 (z : Byte) (s : State) : Result := .next (runInstr 5 (.zp0 z) opDec s)

/-- 0xCE DEC ABS, 6 cycles (R211). -/
def execDecAbs (a : Word) (s : State) : Result := .next (runInstr 6 (.abs a) opDec s)

/-- 0xD6 DEC ZPX, 6 cycles (R211). -/
def execDecZpx (z : Byte) (s : State) : Result := .next (runInstr 6 (.zpx z) opDec s)

/-- 0xDE DEC ABX, 7 cycles (R211). -/
def execDecAbx (a : Word) (s : State) : Result := .next (runInstr 7 (.abx a) opDec s)

/-- 0xE8 INX IMP, 2 cycles (R212). -/
def execInx (s : State) : Result := .next (runInstr 2 .imp opInx s)

/-- 0xC8 INY IMP, 2 cycles (R213). -/
def execIny (s : State) : Result := .next (runInstr 2 .imp opIny s)

/-- 0xCA DEX IMP, 2 cycles (R214). -/
def execDex (s : State) : Result := .next (runInstr 2 .imp opDex s)

/-- 0x88 DEY IMP, 2 cycles (R215). -/
def execDey (s : State) : Result := .next (runInstr 2 .imp opDey s)

end Sys2Proof.Machine
end

