-- ==== Sys2Proof/Machine/ControlTransfer.lean ====
section
/-! DEFINITION. Branches, jumps, subroutines, BRK and RTI (spec/43_control_transfer.md): the operation routines and the meaning of
every row. -/

namespace Sys2Proof.Machine

/-- The target of a branch: `(PC + addr_rel) & 0xFFFF` (R240). -/
def branchTarget (c : Cpu) : Word := c.pc + c.addrRel

/-- A taken branch: one cycle more, two if the target lies in another page than the next instruction (R240). -/
def takeBranch (s : State) : State :=
  let target := branchTarget s.cpu
  (s.setCycles (s.cpu.cycles + 1 + (pageCrossed s.cpu.pc target).toNat)).setPc target

/-- `Branch(cond)` (R240), where the condition is that a flag has a value. -/
def branchOn (f : Flag) (value : Bool) : Operation := fun _ s =>
  (false, if getFlag f s.cpu.p = value then takeBranch s else s)

/-- BCC (R241). -/
def opBcc : Operation := branchOn .c false

/-- BCS (R242). -/
def opBcs : Operation := branchOn .c true

/-- BEQ (R243). -/
def opBeq : Operation := branchOn .z true

/-- BMI (R244). -/
def opBmi : Operation := branchOn .n true

/-- BNE (R245). -/
def opBne : Operation := branchOn .z false

/-- BPL (R246). -/
def opBpl : Operation := branchOn .n false

/-- BVC (R247). -/
def opBvc : Operation := branchOn .v false

/-- BVS (R248). -/
def opBvs : Operation := branchOn .v true

/-- JMP (R250). -/
def opJmp : Operation := fun _ s => (false, s.setPc s.cpu.addrAbs)

/-- JSR (R252): push `PC - 1`, high byte first. -/
def opJsr : Operation := fun _ s =>
  let w := pushWord (s.cpu.pc - 1#16) s
  (false, w.setPc w.cpu.addrAbs)

/-- RTS (R254): pull and increment. -/
def opRts : Operation := fun _ s =>
  let r := pullWord s
  (false, r.2.setPc (r.1 + 1#16))

/-- BRK (R256). -/
def opBrk : Operation := fun _ s => (false, softwareInterrupt s)

/-- RTI (R259). -/
def opRti : Operation := fun _ s => (false, returnFromInterrupt s)

/-- 0x90 BCC REL, 2+b cycles (R241). -/
def execBcc (r : Int) (s : State) : Result := .next (runInstr 2 (.rel r) opBcc s)

/-- 0xB0 BCS REL, 2+b cycles (R242). -/
def execBcs (r : Int) (s : State) : Result := .next (runInstr 2 (.rel r) opBcs s)

/-- 0xF0 BEQ REL, 2+b cycles (R243). -/
def execBeq (r : Int) (s : State) : Result := .next (runInstr 2 (.rel r) opBeq s)

/-- 0x30 BMI REL, 2+b cycles (R244). -/
def execBmi (r : Int) (s : State) : Result := .next (runInstr 2 (.rel r) opBmi s)

/-- 0xD0 BNE REL, 2+b cycles (R245). -/
def execBne (r : Int) (s : State) : Result := .next (runInstr 2 (.rel r) opBne s)

/-- 0x10 BPL REL, 2+b cycles (R246). -/
def execBpl (r : Int) (s : State) : Result := .next (runInstr 2 (.rel r) opBpl s)

/-- 0x50 BVC REL, 2+b cycles (R247). -/
def execBvc (r : Int) (s : State) : Result := .next (runInstr 2 (.rel r) opBvc s)

/-- 0x70 BVS REL, 2+b cycles (R248). -/
def execBvs (r : Int) (s : State) : Result := .next (runInstr 2 (.rel r) opBvs s)

/-- 0x4C JMP ABS, 3 cycles (R250). -/
def execJmpAbs (a : Word) (s : State) : Result := .next (runInstr 3 (.abs a) opJmp s)

/-- 0x6C JMP IND, 5 cycles (R250). -/
def execJmpInd (a : Word) (s : State) : Result := .next (runInstr 5 (.ind a) opJmp s)

/-- 0x20 JSR ABS, 6 cycles (R252). -/
def execJsr (a : Word) (s : State) : Result := .next (runInstr 6 (.abs a) opJsr s)

/-- 0x60 RTS IMP, 6 cycles (R254). -/
def execRts (s : State) : Result := .next (runInstr 6 .imp opRts s)

/-- 0x00 BRK IMP, 7 cycles (R256). -/
def execBrk (s : State) : Result := .next (runInstr 7 .imp opBrk s)

/-- 0x40 RTI IMP, 6 cycles (R259). -/
def execRti (s : State) : Result := .next (runInstr 6 .imp opRti s)

end Sys2Proof.Machine
end

