-- ==== Sys2Proof/Machine/FlagsNopIllegal.lean ====
section
/-! DEFINITION. Flag instructions, NOP, the unofficial NOPs and the filler opcodes (spec/45_flags_nop_illegal.md): the operation
routines and the meaning of every row. -/

namespace Sys2Proof.Machine

/-- Set or clear one flag. -/
def writeFlag (f : Flag) (on : Bool) : Operation := fun _ s => (false, s.setP (setFlag f on s.cpu.p))

/-- CLC (R300). -/
def opClc : Operation := writeFlag .c false

/-- CLD (R301). -/
def opCld : Operation := writeFlag .d false

/-- CLI (R302). -/
def opCli : Operation := writeFlag .i false

/-- CLV (R303). -/
def opClv : Operation := writeFlag .v false

/-- SEC (R304). -/
def opSec : Operation := writeFlag .c true

/-- SED (R305). -/
def opSed : Operation := writeFlag .d true

/-- SEI (R306). -/
def opSei : Operation := writeFlag .i true

/-- The NOP routine (R308, R309): no data read, nothing changes; it requests the extra cycle for the six ABX opcodes only. -/
def opNop (extra : Bool) : Operation := fun _ s => (extra, s)

/-- A filler opcode (R310, R311): one byte, mode IMP, nothing done; refused under P_ILLEGAL_OPCODE = REFUSE. -/
def runFiller (base : Nat) (s : State) : Result :=
  match s.config.illegalOpcode with
  | .filler => .next (runInstr base .imp (opNop false) s)
  | .refuse => .refused .illegalOpcode

/-- 0x18 CLC IMP, 2 cycles (R300). -/
def execClc (s : State) : Result := .next (runInstr 2 .imp opClc s)

/-- 0xD8 CLD IMP, 2 cycles (R301). -/
def execCld (s : State) : Result := .next (runInstr 2 .imp opCld s)

/-- 0x58 CLI IMP, 2 cycles (R302). -/
def execCli (s : State) : Result := .next (runInstr 2 .imp opCli s)

/-- 0xB8 CLV IMP, 2 cycles (R303). -/
def execClv (s : State) : Result := .next (runInstr 2 .imp opClv s)

/-- 0x38 SEC IMP, 2 cycles (R304). -/
def execSec (s : State) : Result := .next (runInstr 2 .imp opSec s)

/-- 0xF8 SED IMP, 2 cycles (R305). -/
def execSed (s : State) : Result := .next (runInstr 2 .imp opSed s)

/-- 0x78 SEI IMP, 2 cycles (R306). -/
def execSei (s : State) : Result := .next (runInstr 2 .imp opSei s)

/-- 0x04 unofficial NOP ZP0, 3 cycles (R309). -/
def execNopZp004 (z : Byte) (s : State) : Result := .next (runInstr 3 (.zp0 z) (opNop false) s)

/-- 0x0C unofficial NOP ABS, 4 cycles (R309). -/
def execNopAbs0C (a : Word) (s : State) : Result := .next (runInstr 4 (.abs a) (opNop false) s)

/-- 0x14 unofficial NOP ZPX, 4 cycles (R309). -/
def execNopZpx14 (z : Byte) (s : State) : Result := .next (runInstr 4 (.zpx z) (opNop false) s)

/-- 0x1A unofficial NOP IMP, 2 cycles (R309). -/
def execNopImp1A (s : State) : Result := .next (runInstr 2 .imp (opNop false) s)

/-- 0x1C unofficial NOP ABX, 4+p cycles (R309). -/
def execNopAbx1C (a : Word) (s : State) : Result := .next (runInstr 4 (.abx a) (opNop true) s)

/-- 0x34 unofficial NOP ZPX, 4 cycles (R309). -/
def execNopZpx34 (z : Byte) (s : State) : Result := .next (runInstr 4 (.zpx z) (opNop false) s)

/-- 0x3A unofficial NOP IMP, 2 cycles (R309). -/
def execNopImp3A (s : State) : Result := .next (runInstr 2 .imp (opNop false) s)

/-- 0x3C unofficial NOP ABX, 4+p cycles (R309). -/
def execNopAbx3C (a : Word) (s : State) : Result := .next (runInstr 4 (.abx a) (opNop true) s)

/-- 0x44 unofficial NOP ZP0, 3 cycles (R309). -/
def execNopZp044 (z : Byte) (s : State) : Result := .next (runInstr 3 (.zp0 z) (opNop false) s)

/-- 0x54 unofficial NOP ZPX, 4 cycles (R309). -/
def execNopZpx54 (z : Byte) (s : State) : Result := .next (runInstr 4 (.zpx z) (opNop false) s)

/-- 0x5A unofficial NOP IMP, 2 cycles (R309). -/
def execNopImp5A (s : State) : Result := .next (runInstr 2 .imp (opNop false) s)

/-- 0x5C unofficial NOP ABX, 4+p cycles (R309). -/
def execNopAbx5C (a : Word) (s : State) : Result := .next (runInstr 4 (.abx a) (opNop true) s)

/-- 0x64 unofficial NOP ZP0, 3 cycles (R309). -/
def execNopZp064 (z : Byte) (s : State) : Result := .next (runInstr 3 (.zp0 z) (opNop false) s)

/-- 0x74 unofficial NOP ZPX, 4 cycles (R309). -/
def execNopZpx74 (z : Byte) (s : State) : Result := .next (runInstr 4 (.zpx z) (opNop false) s)

/-- 0x7A unofficial NOP IMP, 2 cycles (R309). -/
def execNopImp7A (s : State) : Result := .next (runInstr 2 .imp (opNop false) s)

/-- 0x7C unofficial NOP ABX, 4+p cycles (R309). -/
def execNopAbx7C (a : Word) (s : State) : Result := .next (runInstr 4 (.abx a) (opNop true) s)

/-- 0x80 unofficial NOP IMM, 2 cycles (R309). -/
def execNopImm80 (b : Byte) (s : State) : Result := .next (runInstr 2 (.imm b) (opNop false) s)

/-- 0x82 unofficial NOP IMM, 2 cycles (R309). -/
def execNopImm82 (b : Byte) (s : State) : Result := .next (runInstr 2 (.imm b) (opNop false) s)

/-- 0x89 unofficial NOP IMM, 2 cycles (R309). -/
def execNopImm89 (b : Byte) (s : State) : Result := .next (runInstr 2 (.imm b) (opNop false) s)

/-- 0xC2 unofficial NOP IMM, 2 cycles (R309). -/
def execNopImmC2 (b : Byte) (s : State) : Result := .next (runInstr 2 (.imm b) (opNop false) s)

/-- 0xD4 unofficial NOP ZPX, 4 cycles (R309). -/
def execNopZpxD4 (z : Byte) (s : State) : Result := .next (runInstr 4 (.zpx z) (opNop false) s)

/-- 0xDA unofficial NOP IMP, 2 cycles (R309). -/
def execNopImpDA (s : State) : Result := .next (runInstr 2 .imp (opNop false) s)

/-- 0xDC unofficial NOP ABX, 4+p cycles (R309). -/
def execNopAbxDC (a : Word) (s : State) : Result := .next (runInstr 4 (.abx a) (opNop true) s)

/-- 0xE2 unofficial NOP IMM, 2 cycles (R309). -/
def execNopImmE2 (b : Byte) (s : State) : Result := .next (runInstr 2 (.imm b) (opNop false) s)

/-- 0xEA NOP IMP, 2 cycles (R308). -/
def execNop (s : State) : Result := .next (runInstr 2 .imp (opNop false) s)

/-- 0xF4 unofficial NOP ZPX, 4 cycles (R309). -/
def execNopZpxF4 (z : Byte) (s : State) : Result := .next (runInstr 4 (.zpx z) (opNop false) s)

/-- 0xFA unofficial NOP IMP, 2 cycles (R309). -/
def execNopImpFA (s : State) : Result := .next (runInstr 2 .imp (opNop false) s)

/-- 0xFC unofficial NOP ABX, 4+p cycles (R309). -/
def execNopAbxFC (a : Word) (s : State) : Result := .next (runInstr 4 (.abx a) (opNop true) s)

/-- 0x02, filler (on NMOS hardware KIL), 2 cycles (R310). -/
def execFiller02 (s : State) : Result := runFiller 2 s

/-- 0x03, filler (on NMOS hardware SLO), 8 cycles (R310). -/
def execFiller03 (s : State) : Result := runFiller 8 s

/-- 0x07, filler (on NMOS hardware SLO), 5 cycles (R310). -/
def execFiller07 (s : State) : Result := runFiller 5 s

/-- 0x0B, filler (on NMOS hardware ANC), 2 cycles (R310). -/
def execFiller0B (s : State) : Result := runFiller 2 s

/-- 0x0F, filler (on NMOS hardware SLO), 6 cycles (R310). -/
def execFiller0F (s : State) : Result := runFiller 6 s

/-- 0x12, filler (on NMOS hardware KIL), 2 cycles (R310). -/
def execFiller12 (s : State) : Result := runFiller 2 s

/-- 0x13, filler (on NMOS hardware SLO), 8 cycles (R310). -/
def execFiller13 (s : State) : Result := runFiller 8 s

/-- 0x17, filler (on NMOS hardware SLO), 6 cycles (R310). -/
def execFiller17 (s : State) : Result := runFiller 6 s

/-- 0x1B, filler (on NMOS hardware SLO), 7 cycles (R310). -/
def execFiller1B (s : State) : Result := runFiller 7 s

/-- 0x1F, filler (on NMOS hardware SLO), 7 cycles (R310). -/
def execFiller1F (s : State) : Result := runFiller 7 s

/-- 0x22, filler (on NMOS hardware KIL), 2 cycles (R310). -/
def execFiller22 (s : State) : Result := runFiller 2 s

/-- 0x23, filler (on NMOS hardware RLA), 8 cycles (R310). -/
def execFiller23 (s : State) : Result := runFiller 8 s

/-- 0x27, filler (on NMOS hardware RLA), 5 cycles (R310). -/
def execFiller27 (s : State) : Result := runFiller 5 s

/-- 0x2B, filler (on NMOS hardware ANC), 2 cycles (R310). -/
def execFiller2B (s : State) : Result := runFiller 2 s

/-- 0x2F, filler (on NMOS hardware RLA), 6 cycles (R310). -/
def execFiller2F (s : State) : Result := runFiller 6 s

/-- 0x32, filler (on NMOS hardware KIL), 2 cycles (R310). -/
def execFiller32 (s : State) : Result := runFiller 2 s

/-- 0x33, filler (on NMOS hardware RLA), 8 cycles (R310). -/
def execFiller33 (s : State) : Result := runFiller 8 s

/-- 0x37, filler (on NMOS hardware RLA), 6 cycles (R310). -/
def execFiller37 (s : State) : Result := runFiller 6 s

/-- 0x3B, filler (on NMOS hardware RLA), 7 cycles (R310). -/
def execFiller3B (s : State) : Result := runFiller 7 s

/-- 0x3F, filler (on NMOS hardware RLA), 7 cycles (R310). -/
def execFiller3F (s : State) : Result := runFiller 7 s

/-- 0x42, filler (on NMOS hardware KIL), 2 cycles (R310). -/
def execFiller42 (s : State) : Result := runFiller 2 s

/-- 0x43, filler (on NMOS hardware SRE), 8 cycles (R310). -/
def execFiller43 (s : State) : Result := runFiller 8 s

/-- 0x47, filler (on NMOS hardware SRE), 5 cycles (R310). -/
def execFiller47 (s : State) : Result := runFiller 5 s

/-- 0x4B, filler (on NMOS hardware ALR), 2 cycles (R310). -/
def execFiller4B (s : State) : Result := runFiller 2 s

/-- 0x4F, filler (on NMOS hardware SRE), 6 cycles (R310). -/
def execFiller4F (s : State) : Result := runFiller 6 s

/-- 0x52, filler (on NMOS hardware KIL), 2 cycles (R310). -/
def execFiller52 (s : State) : Result := runFiller 2 s

/-- 0x53, filler (on NMOS hardware SRE), 8 cycles (R310). -/
def execFiller53 (s : State) : Result := runFiller 8 s

/-- 0x57, filler (on NMOS hardware SRE), 6 cycles (R310). -/
def execFiller57 (s : State) : Result := runFiller 6 s

/-- 0x5B, filler (on NMOS hardware SRE), 7 cycles (R310). -/
def execFiller5B (s : State) : Result := runFiller 7 s

/-- 0x5F, filler (on NMOS hardware SRE), 7 cycles (R310). -/
def execFiller5F (s : State) : Result := runFiller 7 s

/-- 0x62, filler (on NMOS hardware KIL), 2 cycles (R310). -/
def execFiller62 (s : State) : Result := runFiller 2 s

/-- 0x63, filler (on NMOS hardware RRA), 8 cycles (R310). -/
def execFiller63 (s : State) : Result := runFiller 8 s

/-- 0x67, filler (on NMOS hardware RRA), 5 cycles (R310). -/
def execFiller67 (s : State) : Result := runFiller 5 s

/-- 0x6B, filler (on NMOS hardware ARR), 2 cycles (R310). -/
def execFiller6B (s : State) : Result := runFiller 2 s

/-- 0x6F, filler (on NMOS hardware RRA), 6 cycles (R310). -/
def execFiller6F (s : State) : Result := runFiller 6 s

/-- 0x72, filler (on NMOS hardware KIL), 2 cycles (R310). -/
def execFiller72 (s : State) : Result := runFiller 2 s

/-- 0x73, filler (on NMOS hardware RRA), 8 cycles (R310). -/
def execFiller73 (s : State) : Result := runFiller 8 s

/-- 0x77, filler (on NMOS hardware RRA), 6 cycles (R310). -/
def execFiller77 (s : State) : Result := runFiller 6 s

/-- 0x7B, filler (on NMOS hardware RRA), 7 cycles (R310). -/
def execFiller7B (s : State) : Result := runFiller 7 s

/-- 0x7F, filler (on NMOS hardware RRA), 7 cycles (R310). -/
def execFiller7F (s : State) : Result := runFiller 7 s

/-- 0x83, filler (on NMOS hardware SAX), 6 cycles (R310). -/
def execFiller83 (s : State) : Result := runFiller 6 s

/-- 0x87, filler (on NMOS hardware SAX), 3 cycles (R310). -/
def execFiller87 (s : State) : Result := runFiller 3 s

/-- 0x8B, filler (on NMOS hardware XAA), 2 cycles (R310). -/
def execFiller8B (s : State) : Result := runFiller 2 s

/-- 0x8F, filler (on NMOS hardware SAX), 4 cycles (R310). -/
def execFiller8F (s : State) : Result := runFiller 4 s

/-- 0x92, filler (on NMOS hardware KIL), 2 cycles (R310). -/
def execFiller92 (s : State) : Result := runFiller 2 s

/-- 0x93, filler (on NMOS hardware AHX), 6 cycles (R310). -/
def execFiller93 (s : State) : Result := runFiller 6 s

/-- 0x97, filler (on NMOS hardware SAX), 4 cycles (R310). -/
def execFiller97 (s : State) : Result := runFiller 4 s

/-- 0x9B, filler (on NMOS hardware TAS), 5 cycles (R310). -/
def execFiller9B (s : State) : Result := runFiller 5 s

/-- 0x9C, filler (on NMOS hardware SHY), 5 cycles (R310). -/
def execFiller9C (s : State) : Result := runFiller 5 s

/-- 0x9E, filler (on NMOS hardware SHX), 5 cycles (R310). -/
def execFiller9E (s : State) : Result := runFiller 5 s

/-- 0x9F, filler (on NMOS hardware AHX), 5 cycles (R310). -/
def execFiller9F (s : State) : Result := runFiller 5 s

/-- 0xA3, filler (on NMOS hardware LAX), 6 cycles (R310). -/
def execFillerA3 (s : State) : Result := runFiller 6 s

/-- 0xA7, filler (on NMOS hardware LAX), 3 cycles (R310). -/
def execFillerA7 (s : State) : Result := runFiller 3 s

/-- 0xAB, filler (on NMOS hardware LAX), 2 cycles (R310). -/
def execFillerAB (s : State) : Result := runFiller 2 s

/-- 0xAF, filler (on NMOS hardware LAX), 4 cycles (R310). -/
def execFillerAF (s : State) : Result := runFiller 4 s

/-- 0xB2, filler (on NMOS hardware KIL), 2 cycles (R310). -/
def execFillerB2 (s : State) : Result := runFiller 2 s

/-- 0xB3, filler (on NMOS hardware LAX), 5 cycles (R310). -/
def execFillerB3 (s : State) : Result := runFiller 5 s

/-- 0xB7, filler (on NMOS hardware LAX), 4 cycles (R310). -/
def execFillerB7 (s : State) : Result := runFiller 4 s

/-- 0xBB, filler (on NMOS hardware LAS), 4 cycles (R310). -/
def execFillerBB (s : State) : Result := runFiller 4 s

/-- 0xBF, filler (on NMOS hardware LAX), 4 cycles (R310). -/
def execFillerBF (s : State) : Result := runFiller 4 s

/-- 0xC3, filler (on NMOS hardware DCP), 8 cycles (R310). -/
def execFillerC3 (s : State) : Result := runFiller 8 s

/-- 0xC7, filler (on NMOS hardware DCP), 5 cycles (R310). -/
def execFillerC7 (s : State) : Result := runFiller 5 s

/-- 0xCB, filler (on NMOS hardware AXS), 2 cycles (R310). -/
def execFillerCB (s : State) : Result := runFiller 2 s

/-- 0xCF, filler (on NMOS hardware DCP), 6 cycles (R310). -/
def execFillerCF (s : State) : Result := runFiller 6 s

/-- 0xD2, filler (on NMOS hardware KIL), 2 cycles (R310). -/
def execFillerD2 (s : State) : Result := runFiller 2 s

/-- 0xD3, filler (on NMOS hardware DCP), 8 cycles (R310). -/
def execFillerD3 (s : State) : Result := runFiller 8 s

/-- 0xD7, filler (on NMOS hardware DCP), 6 cycles (R310). -/
def execFillerD7 (s : State) : Result := runFiller 6 s

/-- 0xDB, filler (on NMOS hardware DCP), 7 cycles (R310). -/
def execFillerDB (s : State) : Result := runFiller 7 s

/-- 0xDF, filler (on NMOS hardware DCP), 7 cycles (R310). -/
def execFillerDF (s : State) : Result := runFiller 7 s

/-- 0xE3, filler (on NMOS hardware ISC), 8 cycles (R310). -/
def execFillerE3 (s : State) : Result := runFiller 8 s

/-- 0xE7, filler (on NMOS hardware ISC), 5 cycles (R310). -/
def execFillerE7 (s : State) : Result := runFiller 5 s

/-- 0xEB, filler (on NMOS hardware SBC), 2 cycles (R310). -/
def execFillerEB (s : State) : Result := runFiller 2 s

/-- 0xEF, filler (on NMOS hardware ISC), 6 cycles (R310). -/
def execFillerEF (s : State) : Result := runFiller 6 s

/-- 0xF2, filler (on NMOS hardware KIL), 2 cycles (R310). -/
def execFillerF2 (s : State) : Result := runFiller 2 s

/-- 0xF3, filler (on NMOS hardware ISC), 8 cycles (R310). -/
def execFillerF3 (s : State) : Result := runFiller 8 s

/-- 0xF7, filler (on NMOS hardware ISC), 6 cycles (R310). -/
def execFillerF7 (s : State) : Result := runFiller 6 s

/-- 0xFB, filler (on NMOS hardware ISC), 7 cycles (R310). -/
def execFillerFB (s : State) : Result := runFiller 7 s

/-- 0xFF, filler (on NMOS hardware ISC), 7 cycles (R310). -/
def execFillerFF (s : State) : Result := runFiller 7 s

end Sys2Proof.Machine
end

