-- ==== Sys2Proof/Machine/LoadStoreTransfer.lean ====
section
/-! DEFINITION. Loads, stores, register transfers and stack operations (spec/44_load_store_transfer.md): the operation routines and
the meaning of every row. -/

namespace Sys2Proof.Machine

/-- LDA (R270). -/
def opLda : Operation := fun o s =>
  let f := fetchOperand o s
  (true, loadA f.1 f.2)

/-- LDX (R271). -/
def opLdx : Operation := fun o s =>
  let f := fetchOperand o s
  (true, loadX f.1 f.2)

/-- LDY (R272). -/
def opLdy : Operation := fun o s =>
  let f := fetchOperand o s
  (true, loadY f.1 f.2)

/-- STA (R273). -/
def opSta : Operation := fun _ s => (false, memWrite s.cpu.addrAbs s.cpu.a s)

/-- STX (R274). -/
def opStx : Operation := fun _ s => (false, memWrite s.cpu.addrAbs s.cpu.x s)

/-- STY (R275). -/
def opSty : Operation := fun _ s => (false, memWrite s.cpu.addrAbs s.cpu.y s)

/-- TAX (R276). -/
def opTax : Operation := fun _ s => (false, loadX s.cpu.a s)

/-- TAY (R277). -/
def opTay : Operation := fun _ s => (false, loadY s.cpu.a s)

/-- TSX (R278). -/
def opTsx : Operation := fun _ s => (false, loadX s.cpu.s s)

/-- TXA (R279). -/
def opTxa : Operation := fun _ s => (false, loadA s.cpu.x s)

/-- TXS (R280): no flag changes. -/
def opTxs : Operation := fun _ s => (false, s.setS s.cpu.x)

/-- TYA (R281). -/
def opTya : Operation := fun _ s => (false, loadA s.cpu.y s)

/-- PHA (R282). -/
def opPha : Operation := fun _ s => (false, push s.cpu.a s)

/-- PHP (R283): the live P is unchanged. -/
def opPhp : Operation := fun _ s => (false, push (pushedStatus s.cpu.p) s)

/-- PLA (R284). -/
def opPla : Operation := fun _ s =>
  let r := pull s
  (false, loadA r.1 r.2)

/-- PLP (R285): U is 1, B takes bit 4 of the pulled byte. -/
def opPlp : Operation := fun _ s =>
  let r := pull s
  (false, r.2.setP (setFlag .u true r.1))

/-- 0xA1 LDA IZX, 6 cycles (R270). -/
def execLdaIzx (z : Byte) (s : State) : Result := .next (runInstr 6 (.izx z) opLda s)

/-- 0xA5 LDA ZP0, 3 cycles (R270). -/
def execLdaZp0 (z : Byte) (s : State) : Result := .next (runInstr 3 (.zp0 z) opLda s)

/-- 0xA9 LDA IMM, 2 cycles (R270). -/
def execLdaImm (b : Byte) (s : State) : Result := .next (runInstr 2 (.imm b) opLda s)

/-- 0xAD LDA ABS, 4 cycles (R270). -/
def execLdaAbs (a : Word) (s : State) : Result := .next (runInstr 4 (.abs a) opLda s)

/-- 0xB1 LDA IZY, 5+p cycles (R270). -/
def execLdaIzy (z : Byte) (s : State) : Result := .next (runInstr 5 (.izy z) opLda s)

/-- 0xB5 LDA ZPX, 4 cycles (R270). -/
def execLdaZpx (z : Byte) (s : State) : Result := .next (runInstr 4 (.zpx z) opLda s)

/-- 0xB9 LDA ABY, 4+p cycles (R270). -/
def execLdaAby (a : Word) (s : State) : Result := .next (runInstr 4 (.aby a) opLda s)

/-- 0xBD LDA ABX, 4+p cycles (R270). -/
def execLdaAbx (a : Word) (s : State) : Result := .next (runInstr 4 (.abx a) opLda s)

/-- 0xA2 LDX IMM, 2 cycles (R271). -/
def execLdxImm (b : Byte) (s : State) : Result := .next (runInstr 2 (.imm b) opLdx s)

/-- 0xA6 LDX ZP0, 3 cycles (R271). -/
def execLdxZp0 (z : Byte) (s : State) : Result := .next (runInstr 3 (.zp0 z) opLdx s)

/-- 0xAE LDX ABS, 4 cycles (R271). -/
def execLdxAbs (a : Word) (s : State) : Result := .next (runInstr 4 (.abs a) opLdx s)

/-- 0xB6 LDX ZPY, 4 cycles (R271). -/
def execLdxZpy (z : Byte) (s : State) : Result := .next (runInstr 4 (.zpy z) opLdx s)

/-- 0xBE LDX ABY, 4+p cycles (R271). -/
def execLdxAby (a : Word) (s : State) : Result := .next (runInstr 4 (.aby a) opLdx s)

/-- 0xA0 LDY IMM, 2 cycles (R272). -/
def execLdyImm (b : Byte) (s : State) : Result := .next (runInstr 2 (.imm b) opLdy s)

/-- 0xA4 LDY ZP0, 3 cycles (R272). -/
def execLdyZp0 (z : Byte) (s : State) : Result := .next (runInstr 3 (.zp0 z) opLdy s)

/-- 0xAC LDY ABS, 4 cycles (R272). -/
def execLdyAbs (a : Word) (s : State) : Result := .next (runInstr 4 (.abs a) opLdy s)

/-- 0xB4 LDY ZPX, 4 cycles (R272). -/
def execLdyZpx (z : Byte) (s : State) : Result := .next (runInstr 4 (.zpx z) opLdy s)

/-- 0xBC LDY ABX, 4+p cycles (R272). -/
def execLdyAbx (a : Word) (s : State) : Result := .next (runInstr 4 (.abx a) opLdy s)

/-- 0x81 STA IZX, 6 cycles (R273). -/
def execStaIzx (z : Byte) (s : State) : Result := .next (runInstr 6 (.izx z) opSta s)

/-- 0x85 STA ZP0, 3 cycles (R273). -/
def execStaZp0 (z : Byte) (s : State) : Result := .next (runInstr 3 (.zp0 z) opSta s)

/-- 0x8D STA ABS, 4 cycles (R273). -/
def execStaAbs (a : Word) (s : State) : Result := .next (runInstr 4 (.abs a) opSta s)

/-- 0x91 STA IZY, 6 cycles (R273). -/
def execStaIzy (z : Byte) (s : State) : Result := .next (runInstr 6 (.izy z) opSta s)

/-- 0x95 STA ZPX, 4 cycles (R273). -/
def execStaZpx (z : Byte) (s : State) : Result := .next (runInstr 4 (.zpx z) opSta s)

/-- 0x99 STA ABY, 5 cycles (R273). -/
def execStaAby (a : Word) (s : State) : Result := .next (runInstr 5 (.aby a) opSta s)

/-- 0x9D STA ABX, 5 cycles (R273). -/
def execStaAbx (a : Word) (s : State) : Result := .next (runInstr 5 (.abx a) opSta s)

/-- 0x86 STX ZP0, 3 cycles (R274). -/
def execStxZp0 (z : Byte) (s : State) : Result := .next (runInstr 3 (.zp0 z) opStx s)

/-- 0x8E STX ABS, 4 cycles (R274). -/
def execStxAbs (a : Word) (s : State) : Result := .next (runInstr 4 (.abs a) opStx s)

/-- 0x96 STX ZPY, 4 cycles (R274). -/
def execStxZpy (z : Byte) (s : State) : Result := .next (runInstr 4 (.zpy z) opStx s)

/-- 0x84 STY ZP0, 3 cycles (R275). -/
def execStyZp0 (z : Byte) (s : State) : Result := .next (runInstr 3 (.zp0 z) opSty s)

/-- 0x8C STY ABS, 4 cycles (R275). -/
def execStyAbs (a : Word) (s : State) : Result := .next (runInstr 4 (.abs a) opSty s)

/-- 0x94 STY ZPX, 4 cycles (R275). -/
def execStyZpx (z : Byte) (s : State) : Result := .next (runInstr 4 (.zpx z) opSty s)

/-- 0xAA TAX IMP, 2 cycles (R276). -/
def execTax (s : State) : Result := .next (runInstr 2 .imp opTax s)

/-- 0xA8 TAY IMP, 2 cycles (R277). -/
def execTay (s : State) : Result := .next (runInstr 2 .imp opTay s)

/-- 0xBA TSX IMP, 2 cycles (R278). -/
def execTsx (s : State) : Result := .next (runInstr 2 .imp opTsx s)

/-- 0x8A TXA IMP, 2 cycles (R279). -/
def execTxa (s : State) : Result := .next (runInstr 2 .imp opTxa s)

/-- 0x9A TXS IMP, 2 cycles (R280). -/
def execTxs (s : State) : Result := .next (runInstr 2 .imp opTxs s)

/-- 0x98 TYA IMP, 2 cycles (R281). -/
def execTya (s : State) : Result := .next (runInstr 2 .imp opTya s)

/-- 0x48 PHA IMP, 3 cycles (R282). -/
def execPha (s : State) : Result := .next (runInstr 3 .imp opPha s)

/-- 0x08 PHP IMP, 3 cycles (R283). -/
def execPhp (s : State) : Result := .next (runInstr 3 .imp opPhp s)

/-- 0x68 PLA IMP, 4 cycles (R284). -/
def execPla (s : State) : Result := .next (runInstr 4 .imp opPla s)

/-- 0x28 PLP IMP, 4 cycles (R285). -/
def execPlp (s : State) : Result := .next (runInstr 4 .imp opPlp s)

end Sys2Proof.Machine
end

