-- ==== Sys2Proof/Machine/ShiftRotate.lean ====
section
/-! DEFINITION. Shift and rotate (spec/42_shift_rotate.md): the operation routines and the meaning of every row. -/

namespace Sys2Proof.Machine

/-- The shape of the family (R230): one `fetch()`, a result and a carry out computed from the operand and the old status, the
flags C, Z, N, then `Store(R)`; return 0. -/
def shiftWith (result : Byte → Byte → Byte) (carryOut : Byte → Bool) : Operation := fun o s =>
  let f := fetchOperand o s
  let r := result f.1 f.2.cpu.p
  (false, storeResult o r (f.2.setP (shiftFlags (carryOut f.1) r f.2.cpu.p)))

/-- ASL (R231): bit 7 leaves into the carry. -/
def opAsl : Operation := shiftWith (fun m _ => aslResult m) (fun m => m.getLsbD 7)

/-- LSR (R232): bit 0 leaves into the carry. -/
def opLsr : Operation := shiftWith (fun m _ => lsrResult m) (fun m => m.getLsbD 0)

/-- ROL (R233). -/
def opRol : Operation := shiftWith rolResult (fun m => m.getLsbD 7)

/-- ROR (R234). -/
def opRor : Operation := shiftWith rorResult (fun m => m.getLsbD 0)

/-- 0x06 ASL ZP0, 5 cycles (R231). -/
def execAslZp0 (z : Byte) (s : State) : Result := .next (runInstr 5 (.zp0 z) opAsl s)

/-- 0x0A ASL IMP, 2 cycles (R231). -/
def execAslAcc (s : State) : Result := .next (runInstr 2 .imp opAsl s)

/-- 0x0E ASL ABS, 6 cycles (R231). -/
def execAslAbs (a : Word) (s : State) : Result := .next (runInstr 6 (.abs a) opAsl s)

/-- 0x16 ASL ZPX, 6 cycles (R231). -/
def execAslZpx (z : Byte) (s : State) : Result := .next (runInstr 6 (.zpx z) opAsl s)

/-- 0x1E ASL ABX, 7 cycles (R231). -/
def execAslAbx (a : Word) (s : State) : Result := .next (runInstr 7 (.abx a) opAsl s)

/-- 0x46 LSR ZP0, 5 cycles (R232). -/
def execLsrZp0 (z : Byte) (s : State) : Result := .next (runInstr 5 (.zp0 z) opLsr s)

/-- 0x4A LSR IMP, 2 cycles (R232). -/
def execLsrAcc (s : State) : Result := .next (runInstr 2 .imp opLsr s)

/-- 0x4E LSR ABS, 6 cycles (R232). -/
def execLsrAbs (a : Word) (s : State) : Result := .next (runInstr 6 (.abs a) opLsr s)

/-- 0x56 LSR ZPX, 6 cycles (R232). -/
def execLsrZpx (z : Byte) (s : State) : Result := .next (runInstr 6 (.zpx z) opLsr s)

/-- 0x5E LSR ABX, 7 cycles (R232). -/
def execLsrAbx (a : Word) (s : State) : Result := .next (runInstr 7 (.abx a) opLsr s)

/-- 0x26 ROL ZP0, 5 cycles (R233). -/
def execRolZp0 (z : Byte) (s : State) : Result := .next (runInstr 5 (.zp0 z) opRol s)

/-- 0x2A ROL IMP, 2 cycles (R233). -/
def execRolAcc (s : State) : Result := .next (runInstr 2 .imp opRol s)

/-- 0x2E ROL ABS, 6 cycles (R233). -/
def execRolAbs (a : Word) (s : State) : Result := .next (runInstr 6 (.abs a) opRol s)

/-- 0x36 ROL ZPX, 6 cycles (R233). -/
def execRolZpx (z : Byte) (s : State) : Result := .next (runInstr 6 (.zpx z) opRol s)

/-- 0x3E ROL ABX, 7 cycles (R233). -/
def execRolAbx (a : Word) (s : State) : Result := .next (runInstr 7 (.abx a) opRol s)

/-- 0x66 ROR ZP0, 5 cycles (R234). -/
def execRorZp0 (z : Byte) (s : State) : Result := .next (runInstr 5 (.zp0 z) opRor s)

/-- 0x6A ROR IMP, 2 cycles (R234). -/
def execRorAcc (s : State) : Result := .next (runInstr 2 .imp opRor s)

/-- 0x6E ROR ABS, 6 cycles (R234). -/
def execRorAbs (a : Word) (s : State) : Result := .next (runInstr 6 (.abs a) opRor s)

/-- 0x76 ROR ZPX, 6 cycles (R234). -/
def execRorZpx (z : Byte) (s : State) : Result := .next (runInstr 6 (.zpx z) opRor s)

/-- 0x7E ROR ABX, 7 cycles (R234). -/
def execRorAbx (a : Word) (s : State) : Result := .next (runInstr 7 (.abx a) opRor s)

end Sys2Proof.Machine
end

