-- ==== Sys2Proof/Machine/Dispatch.lean ====
section
/-! DEFINITION. `exec`: one arm per constructor of `Instr`, in the table's order, each one call of the meaning of that row. -/

namespace Sys2Proof.Machine

def exec (i : Instr) (s : State) : Host.Outcome State Fault Refusal :=
  match i with
  | .brk => Sys2Proof.Machine.execBrk s
  | .oraIzx z => Sys2Proof.Machine.execOraIzx z s
  | .filler02 => Sys2Proof.Machine.execFiller02 s
  | .filler03 => Sys2Proof.Machine.execFiller03 s
  | .nopZp004 z => Sys2Proof.Machine.execNopZp004 z s
  | .oraZp0 z => Sys2Proof.Machine.execOraZp0 z s
  | .aslZp0 z => Sys2Proof.Machine.execAslZp0 z s
  | .filler07 => Sys2Proof.Machine.execFiller07 s
  | .php => Sys2Proof.Machine.execPhp s
  | .oraImm b => Sys2Proof.Machine.execOraImm b s
  | .aslAcc => Sys2Proof.Machine.execAslAcc s
  | .filler0B => Sys2Proof.Machine.execFiller0B s
  | .nopAbs0C a => Sys2Proof.Machine.execNopAbs0C a s
  | .oraAbs a => Sys2Proof.Machine.execOraAbs a s
  | .aslAbs a => Sys2Proof.Machine.execAslAbs a s
  | .filler0F => Sys2Proof.Machine.execFiller0F s
  | .bpl r => Sys2Proof.Machine.execBpl r s
  | .oraIzy z => Sys2Proof.Machine.execOraIzy z s
  | .filler12 => Sys2Proof.Machine.execFiller12 s
  | .filler13 => Sys2Proof.Machine.execFiller13 s
  | .nopZpx14 z => Sys2Proof.Machine.execNopZpx14 z s
  | .oraZpx z => Sys2Proof.Machine.execOraZpx z s
  | .aslZpx z => Sys2Proof.Machine.execAslZpx z s
  | .filler17 => Sys2Proof.Machine.execFiller17 s
  | .clc => Sys2Proof.Machine.execClc s
  | .oraAby a => Sys2Proof.Machine.execOraAby a s
  | .nopImp1A => Sys2Proof.Machine.execNopImp1A s
  | .filler1B => Sys2Proof.Machine.execFiller1B s
  | .nopAbx1C a => Sys2Proof.Machine.execNopAbx1C a s
  | .oraAbx a => Sys2Proof.Machine.execOraAbx a s
  | .aslAbx a => Sys2Proof.Machine.execAslAbx a s
  | .filler1F => Sys2Proof.Machine.execFiller1F s
  | .jsr a => Sys2Proof.Machine.execJsr a s
  | .andIzx z => Sys2Proof.Machine.execAndIzx z s
  | .filler22 => Sys2Proof.Machine.execFiller22 s
  | .filler23 => Sys2Proof.Machine.execFiller23 s
  | .bitZp0 z => Sys2Proof.Machine.execBitZp0 z s
  | .andZp0 z => Sys2Proof.Machine.execAndZp0 z s
  | .rolZp0 z => Sys2Proof.Machine.execRolZp0 z s
  | .filler27 => Sys2Proof.Machine.execFiller27 s
  | .plp => Sys2Proof.Machine.execPlp s
  | .andImm b => Sys2Proof.Machine.execAndImm b s
  | .rolAcc => Sys2Proof.Machine.execRolAcc s
  | .filler2B => Sys2Proof.Machine.execFiller2B s
  | .bitAbs a => Sys2Proof.Machine.execBitAbs a s
  | .andAbs a => Sys2Proof.Machine.execAndAbs a s
  | .rolAbs a => Sys2Proof.Machine.execRolAbs a s
  | .filler2F => Sys2Proof.Machine.execFiller2F s
  | .bmi r => Sys2Proof.Machine.execBmi r s
  | .andIzy z => Sys2Proof.Machine.execAndIzy z s
  | .filler32 => Sys2Proof.Machine.execFiller32 s
  | .filler33 => Sys2Proof.Machine.execFiller33 s
  | .nopZpx34 z => Sys2Proof.Machine.execNopZpx34 z s
  | .andZpx z => Sys2Proof.Machine.execAndZpx z s
  | .rolZpx z => Sys2Proof.Machine.execRolZpx z s
  | .filler37 => Sys2Proof.Machine.execFiller37 s
  | .sec => Sys2Proof.Machine.execSec s
  | .andAby a => Sys2Proof.Machine.execAndAby a s
  | .nopImp3A => Sys2Proof.Machine.execNopImp3A s
  | .filler3B => Sys2Proof.Machine.execFiller3B s
  | .nopAbx3C a => Sys2Proof.Machine.execNopAbx3C a s
  | .andAbx a => Sys2Proof.Machine.execAndAbx a s
  | .rolAbx a => Sys2Proof.Machine.execRolAbx a s
  | .filler3F => Sys2Proof.Machine.execFiller3F s
  | .rti => Sys2Proof.Machine.execRti s
  | .eorIzx z => Sys2Proof.Machine.execEorIzx z s
  | .filler42 => Sys2Proof.Machine.execFiller42 s
  | .filler43 => Sys2Proof.Machine.execFiller43 s
  | .nopZp044 z => Sys2Proof.Machine.execNopZp044 z s
  | .eorZp0 z => Sys2Proof.Machine.execEorZp0 z s
  | .lsrZp0 z => Sys2Proof.Machine.execLsrZp0 z s
  | .filler47 => Sys2Proof.Machine.execFiller47 s
  | .pha => Sys2Proof.Machine.execPha s
  | .eorImm b => Sys2Proof.Machine.execEorImm b s
  | .lsrAcc => Sys2Proof.Machine.execLsrAcc s
  | .filler4B => Sys2Proof.Machine.execFiller4B s
  | .jmpAbs a => Sys2Proof.Machine.execJmpAbs a s
  | .eorAbs a => Sys2Proof.Machine.execEorAbs a s
  | .lsrAbs a => Sys2Proof.Machine.execLsrAbs a s
  | .filler4F => Sys2Proof.Machine.execFiller4F s
  | .bvc r => Sys2Proof.Machine.execBvc r s
  | .eorIzy z => Sys2Proof.Machine.execEorIzy z s
  | .filler52 => Sys2Proof.Machine.execFiller52 s
  | .filler53 => Sys2Proof.Machine.execFiller53 s
  | .nopZpx54 z => Sys2Proof.Machine.execNopZpx54 z s
  | .eorZpx z => Sys2Proof.Machine.execEorZpx z s
  | .lsrZpx z => Sys2Proof.Machine.execLsrZpx z s
  | .filler57 => Sys2Proof.Machine.execFiller57 s
  | .cli => Sys2Proof.Machine.execCli s
  | .eorAby a => Sys2Proof.Machine.execEorAby a s
  | .nopImp5A => Sys2Proof.Machine.execNopImp5A s
  | .filler5B => Sys2Proof.Machine.execFiller5B s
  | .nopAbx5C a => Sys2Proof.Machine.execNopAbx5C a s
  | .eorAbx a => Sys2Proof.Machine.execEorAbx a s
  | .lsrAbx a => Sys2Proof.Machine.execLsrAbx a s
  | .filler5F => Sys2Proof.Machine.execFiller5F s
  | .rts => Sys2Proof.Machine.execRts s
  | .adcIzx z => Sys2Proof.Machine.execAdcIzx z s
  | .filler62 => Sys2Proof.Machine.execFiller62 s
  | .filler63 => Sys2Proof.Machine.execFiller63 s
  | .nopZp064 z => Sys2Proof.Machine.execNopZp064 z s
  | .adcZp0 z => Sys2Proof.Machine.execAdcZp0 z s
  | .rorZp0 z => Sys2Proof.Machine.execRorZp0 z s
  | .filler67 => Sys2Proof.Machine.execFiller67 s
  | .pla => Sys2Proof.Machine.execPla s
  | .adcImm b => Sys2Proof.Machine.execAdcImm b s
  | .rorAcc => Sys2Proof.Machine.execRorAcc s
  | .filler6B => Sys2Proof.Machine.execFiller6B s
  | .jmpInd a => Sys2Proof.Machine.execJmpInd a s
  | .adcAbs a => Sys2Proof.Machine.execAdcAbs a s
  | .rorAbs a => Sys2Proof.Machine.execRorAbs a s
  | .filler6F => Sys2Proof.Machine.execFiller6F s
  | .bvs r => Sys2Proof.Machine.execBvs r s
  | .adcIzy z => Sys2Proof.Machine.execAdcIzy z s
  | .filler72 => Sys2Proof.Machine.execFiller72 s
  | .filler73 => Sys2Proof.Machine.execFiller73 s
  | .nopZpx74 z => Sys2Proof.Machine.execNopZpx74 z s
  | .adcZpx z => Sys2Proof.Machine.execAdcZpx z s
  | .rorZpx z => Sys2Proof.Machine.execRorZpx z s
  | .filler77 => Sys2Proof.Machine.execFiller77 s
  | .sei => Sys2Proof.Machine.execSei s
  | .adcAby a => Sys2Proof.Machine.execAdcAby a s
  | .nopImp7A => Sys2Proof.Machine.execNopImp7A s
  | .filler7B => Sys2Proof.Machine.execFiller7B s
  | .nopAbx7C a => Sys2Proof.Machine.execNopAbx7C a s
  | .adcAbx a => Sys2Proof.Machine.execAdcAbx a s
  | .rorAbx a => Sys2Proof.Machine.execRorAbx a s
  | .filler7F => Sys2Proof.Machine.execFiller7F s
  | .nopImm80 b => Sys2Proof.Machine.execNopImm80 b s
  | .staIzx z => Sys2Proof.Machine.execStaIzx z s
  | .nopImm82 b => Sys2Proof.Machine.execNopImm82 b s
  | .filler83 => Sys2Proof.Machine.execFiller83 s
  | .styZp0 z => Sys2Proof.Machine.execStyZp0 z s
  | .staZp0 z => Sys2Proof.Machine.execStaZp0 z s
  | .stxZp0 z => Sys2Proof.Machine.execStxZp0 z s
  | .filler87 => Sys2Proof.Machine.execFiller87 s
  | .dey => Sys2Proof.Machine.execDey s
  | .nopImm89 b => Sys2Proof.Machine.execNopImm89 b s
  | .txa => Sys2Proof.Machine.execTxa s
  | .filler8B => Sys2Proof.Machine.execFiller8B s
  | .styAbs a => Sys2Proof.Machine.execStyAbs a s
  | .staAbs a => Sys2Proof.Machine.execStaAbs a s
  | .stxAbs a => Sys2Proof.Machine.execStxAbs a s
  | .filler8F => Sys2Proof.Machine.execFiller8F s
  | .bcc r => Sys2Proof.Machine.execBcc r s
  | .staIzy z => Sys2Proof.Machine.execStaIzy z s
  | .filler92 => Sys2Proof.Machine.execFiller92 s
  | .filler93 => Sys2Proof.Machine.execFiller93 s
  | .styZpx z => Sys2Proof.Machine.execStyZpx z s
  | .staZpx z => Sys2Proof.Machine.execStaZpx z s
  | .stxZpy z => Sys2Proof.Machine.execStxZpy z s
  | .filler97 => Sys2Proof.Machine.execFiller97 s
  | .tya => Sys2Proof.Machine.execTya s
  | .staAby a => Sys2Proof.Machine.execStaAby a s
  | .txs => Sys2Proof.Machine.execTxs s
  | .filler9B => Sys2Proof.Machine.execFiller9B s
  | .filler9C => Sys2Proof.Machine.execFiller9C s
  | .staAbx a => Sys2Proof.Machine.execStaAbx a s
  | .filler9E => Sys2Proof.Machine.execFiller9E s
  | .filler9F => Sys2Proof.Machine.execFiller9F s
  | .ldyImm b => Sys2Proof.Machine.execLdyImm b s
  | .ldaIzx z => Sys2Proof.Machine.execLdaIzx z s
  | .ldxImm b => Sys2Proof.Machine.execLdxImm b s
  | .fillerA3 => Sys2Proof.Machine.execFillerA3 s
  | .ldyZp0 z => Sys2Proof.Machine.execLdyZp0 z s
  | .ldaZp0 z => Sys2Proof.Machine.execLdaZp0 z s
  | .ldxZp0 z => Sys2Proof.Machine.execLdxZp0 z s
  | .fillerA7 => Sys2Proof.Machine.execFillerA7 s
  | .tay => Sys2Proof.Machine.execTay s
  | .ldaImm b => Sys2Proof.Machine.execLdaImm b s
  | .tax => Sys2Proof.Machine.execTax s
  | .fillerAB => Sys2Proof.Machine.execFillerAB s
  | .ldyAbs a => Sys2Proof.Machine.execLdyAbs a s
  | .ldaAbs a => Sys2Proof.Machine.execLdaAbs a s
  | .ldxAbs a => Sys2Proof.Machine.execLdxAbs a s
  | .fillerAF => Sys2Proof.Machine.execFillerAF s
  | .bcs r => Sys2Proof.Machine.execBcs r s
  | .ldaIzy z => Sys2Proof.Machine.execLdaIzy z s
  | .fillerB2 => Sys2Proof.Machine.execFillerB2 s
  | .fillerB3 => Sys2Proof.Machine.execFillerB3 s
  | .ldyZpx z => Sys2Proof.Machine.execLdyZpx z s
  | .ldaZpx z => Sys2Proof.Machine.execLdaZpx z s
  | .ldxZpy z => Sys2Proof.Machine.execLdxZpy z s
  | .fillerB7 => Sys2Proof.Machine.execFillerB7 s
  | .clv => Sys2Proof.Machine.execClv s
  | .ldaAby a => Sys2Proof.Machine.execLdaAby a s
  | .tsx => Sys2Proof.Machine.execTsx s
  | .fillerBB => Sys2Proof.Machine.execFillerBB s
  | .ldyAbx a => Sys2Proof.Machine.execLdyAbx a s
  | .ldaAbx a => Sys2Proof.Machine.execLdaAbx a s
  | .ldxAby a => Sys2Proof.Machine.execLdxAby a s
  | .fillerBF => Sys2Proof.Machine.execFillerBF s
  | .cpyImm b => Sys2Proof.Machine.execCpyImm b s
  | .cmpIzx z => Sys2Proof.Machine.execCmpIzx z s
  | .nopImmC2 b => Sys2Proof.Machine.execNopImmC2 b s
  | .fillerC3 => Sys2Proof.Machine.execFillerC3 s
  | .cpyZp0 z => Sys2Proof.Machine.execCpyZp0 z s
  | .cmpZp0 z => Sys2Proof.Machine.execCmpZp0 z s
  | .decZp0 z => Sys2Proof.Machine.execDecZp0 z s
  | .fillerC7 => Sys2Proof.Machine.execFillerC7 s
  | .iny => Sys2Proof.Machine.execIny s
  | .cmpImm b => Sys2Proof.Machine.execCmpImm b s
  | .dex => Sys2Proof.Machine.execDex s
  | .fillerCB => Sys2Proof.Machine.execFillerCB s
  | .cpyAbs a => Sys2Proof.Machine.execCpyAbs a s
  | .cmpAbs a => Sys2Proof.Machine.execCmpAbs a s
  | .decAbs a => Sys2Proof.Machine.execDecAbs a s
  | .fillerCF => Sys2Proof.Machine.execFillerCF s
  | .bne r => Sys2Proof.Machine.execBne r s
  | .cmpIzy z => Sys2Proof.Machine.execCmpIzy z s
  | .fillerD2 => Sys2Proof.Machine.execFillerD2 s
  | .fillerD3 => Sys2Proof.Machine.execFillerD3 s
  | .nopZpxD4 z => Sys2Proof.Machine.execNopZpxD4 z s
  | .cmpZpx z => Sys2Proof.Machine.execCmpZpx z s
  | .decZpx z => Sys2Proof.Machine.execDecZpx z s
  | .fillerD7 => Sys2Proof.Machine.execFillerD7 s
  | .cld => Sys2Proof.Machine.execCld s
  | .cmpAby a => Sys2Proof.Machine.execCmpAby a s
  | .nopImpDA => Sys2Proof.Machine.execNopImpDA s
  | .fillerDB => Sys2Proof.Machine.execFillerDB s
  | .nopAbxDC a => Sys2Proof.Machine.execNopAbxDC a s
  | .cmpAbx a => Sys2Proof.Machine.execCmpAbx a s
  | .decAbx a => Sys2Proof.Machine.execDecAbx a s
  | .fillerDF => Sys2Proof.Machine.execFillerDF s
  | .cpxImm b => Sys2Proof.Machine.execCpxImm b s
  | .sbcIzx z => Sys2Proof.Machine.execSbcIzx z s
  | .nopImmE2 b => Sys2Proof.Machine.execNopImmE2 b s
  | .fillerE3 => Sys2Proof.Machine.execFillerE3 s
  | .cpxZp0 z => Sys2Proof.Machine.execCpxZp0 z s
  | .sbcZp0 z => Sys2Proof.Machine.execSbcZp0 z s
  | .incZp0 z => Sys2Proof.Machine.execIncZp0 z s
  | .fillerE7 => Sys2Proof.Machine.execFillerE7 s
  | .inx => Sys2Proof.Machine.execInx s
  | .sbcImm b => Sys2Proof.Machine.execSbcImm b s
  | .nop => Sys2Proof.Machine.execNop s
  | .fillerEB => Sys2Proof.Machine.execFillerEB s
  | .cpxAbs a => Sys2Proof.Machine.execCpxAbs a s
  | .sbcAbs a => Sys2Proof.Machine.execSbcAbs a s
  | .incAbs a => Sys2Proof.Machine.execIncAbs a s
  | .fillerEF => Sys2Proof.Machine.execFillerEF s
  | .beq r => Sys2Proof.Machine.execBeq r s
  | .sbcIzy z => Sys2Proof.Machine.execSbcIzy z s
  | .fillerF2 => Sys2Proof.Machine.execFillerF2 s
  | .fillerF3 => Sys2Proof.Machine.execFillerF3 s
  | .nopZpxF4 z => Sys2Proof.Machine.execNopZpxF4 z s
  | .sbcZpx z => Sys2Proof.Machine.execSbcZpx z s
  | .incZpx z => Sys2Proof.Machine.execIncZpx z s
  | .fillerF7 => Sys2Proof.Machine.execFillerF7 s
  | .sed => Sys2Proof.Machine.execSed s
  | .sbcAby a => Sys2Proof.Machine.execSbcAby a s
  | .nopImpFA => Sys2Proof.Machine.execNopImpFA s
  | .fillerFB => Sys2Proof.Machine.execFillerFB s
  | .nopAbxFC a => Sys2Proof.Machine.execNopAbxFC a s
  | .sbcAbx a => Sys2Proof.Machine.execSbcAbx a s
  | .incAbx a => Sys2Proof.Machine.execIncAbx a s
  | .fillerFF => Sys2Proof.Machine.execFillerFF s

end Sys2Proof.Machine
end

