-- ==== Sys2Proof/Machine/Dma.lean ====
section
/-! DEFINITION. The OAM DMA engine's step (spec/63_system_clock_and_dma.md rule R462). -/

namespace Sys2Proof.Machine

/-- The CPU address a DMA read reads: `(dma_page << 8) | dma_addr` (R462). -/
def dmaSource (b : Bus) : Word := wordOf b.dmaAddr b.dmaPage

/-- The read at an even tick (R462). -/
def dmaRead (s : State) : State :=
  let r := memRead (dmaSource s.bus) s
  { r.2 with bus := { r.2.bus with dmaData := r.1 } }

/-- The write at an odd tick, which ends the transfer when the cursor wraps (R462). -/
def dmaWrite (s : State) : State :=
  let next := s.bus.dmaAddr + 1#8
  let wrapped := decide (next = 0x00#8)
  { s with
    ppu := { s.ppu with oam := Memory.write s.ppu.oam s.bus.dmaAddr.toNat s.bus.dmaData }
    bus :=
      { s.bus with
        dmaAddr := next
        dmaTransfer := s.bus.dmaTransfer && !wrapped
        dmaDummy := s.bus.dmaDummy || wrapped } }

/-- `DmaStep()` (R462). -/
def dmaStep (s : State) : State :=
  if s.bus.dmaDummy then
    if s.bus.tick % 2 = 1 then { s with bus := { s.bus with dmaDummy := false } } else s
  else if s.bus.tick % 2 = 0 then dmaRead s
  else dmaWrite s

end Sys2Proof.Machine
end

