-- ==== Sys2Proof/Machine/Fetch.lean ====
section
/-! DEFINITION. Fetching an instruction (spec/40_execution_pipeline.md rules R150, R151): the opcode byte and the operand bytes are
read at PC with `MemRead`, in order, and PC moves past each. -/

namespace Sys2Proof.Machine

/-- `PC <- PC + 1` (R151). -/
def advancePc (s : State) : State := s.setPc (s.cpu.pc + 1#16)

/-- Read the byte at PC and move past it. -/
def fetchByte (s : State) : Byte × State :=
  let r := memRead s.cpu.pc s
  (r.1, advancePc r.2)

/-- The opcode fetch: `opcode <- MemRead(PC, 1); P.U <- 1; PC <- PC + 1` (R150). -/
def fetchOpcode (s : State) : State :=
  let r := memRead s.cpu.pc s
  advancePc (forceUnused (r.2.setOpcode r.1))

/-- The row's one operand byte is never read: an unofficial NOP in mode IMM makes no data read, only PC moves past it (R156, R309;
log entry 8). -/
def operandUnread (r : Row) : Bool := decide (r.cls = .unofficialNop) && decide (r.mode = .imm)

/-- The operand byte of a two-byte instruction. -/
def fetchOperandByte (r : Row) (s : State) : Byte × State :=
  if operandUnread r then (peek s.cpu.pc s, advancePc s) else fetchByte s

/-- The instruction at PC and the state once its bytes are fetched. -/
def fetchInstr (s : State) : Instr × State :=
  let s1 := fetchOpcode s
  let r := rowOf s1.cpu.opcode
  match r.build with
  | .implied i => (i, s1)
  | .byte f =>
    let b := fetchOperandByte r s1
    (f b.1, b.2)
  | .offset f =>
    let b := fetchByte s1
    (f b.1.toInt, b.2)
  | .word f =>
    let lo := fetchByte s1
    let hi := fetchByte lo.2
    (f (wordOf lo.1 hi.1), hi.2)

end Sys2Proof.Machine
end

