-- ==== Sys2Proof/Machine/PpuRender.lean ====
section
/-! DEFINITION. One PPU step (spec/62_ppu_rendering.md): the background fetch pipeline, scroll updates, vblank, pixel output
and the raster counter. -/

namespace Sys2Proof.Machine

/-- Run an action when its condition holds. -/
def runIf (c : Prop) [Decidable c] (f : State → State) (s : State) : State := if c then f s else s

/-- A bit as a 14-bit number. -/
def bit14 (b : Bool) : PpuAddr := if b then 1#14 else 0#14

/-! ### Fetches -/

/-- `FetchNametable()` reads PPU address `0x2000 | (v & 0x0FFF)` (R406). -/
def nametableAddress (v : Loopy) : PpuAddr := 0x2000#14 ||| (v &&& 0x0FFF#15).setWidth 14

/-- `FetchNametable()` (R406, R417). -/
def fetchNametable (s : State) : State :=
  { s with ppu := { s.ppu with bgNextTileId := ppuRead (nametableAddress s.ppu.v) s } }

/-- The attribute address (R407). -/
def attributeAddress (v : Loopy) : PpuAddr :=
  0x23C0#14 ||| (bit14 (nametableY v) <<< 11) ||| (bit14 (nametableX v) <<< 10) |||
    ((coarseY v >>> 2).setWidth 14 <<< 3) ||| (coarseX v >>> 2).setWidth 14

/-- The two attribute bits of a tile's quadrant (R407). -/
def attributeBits (v : Loopy) (a : Byte) : Byte :=
  let a := if (coarseY v).getLsbD 1 then a >>> 4 else a
  let a := if (coarseX v).getLsbD 1 then a >>> 2 else a
  a &&& 0x03#8

/-- `FetchAttribute()` (R407). -/
def fetchAttribute (s : State) : State :=
  { s with ppu :=
    { s.ppu with bgNextTileAttrib := attributeBits s.ppu.v (ppuRead (attributeAddress s.ppu.v) s) } }

/-- The address of the low plane of the next tile's row (R408, D17). -/
def patternAddress (p : Ppu) : PpuAddr :=
  (bit14 p.patternBackground <<< 12) + (p.bgNextTileId.setWidth 14 <<< 4) + (fineY p.v).setWidth 14

/-- `FetchPatternLow()` (R408). -/
def fetchPatternLow (s : State) : State :=
  { s with ppu := { s.ppu with bgNextTileLsb := ppuRead (patternAddress s.ppu) s } }

/-- `FetchPatternHigh()`: the high plane lies 8 bytes after the low one (R409). -/
def fetchPatternHigh (s : State) : State :=
  { s with ppu := { s.ppu with bgNextTileMsb := ppuRead (patternAddress s.ppu + 8#14) s } }

/-! ### Shifters -/

/-- Keep a shifter's high byte and load its low byte (R410). -/
def loadLow (shifter : Word) (low : Byte) : Word := (shifter &&& 0xFF00#16) ||| low.setWidth 16

/-- One attribute bit copied eight times (R410). -/
def spread (b : Bool) : Byte := if b then 0xFF#8 else 0x00#8

/-- `LoadBackgroundShifters()` (R410). -/
def loadBackgroundShifters (s : State) : State :=
  { s with ppu :=
    { s.ppu with
      bgShifterPatternLo := loadLow s.ppu.bgShifterPatternLo s.ppu.bgNextTileLsb
      bgShifterPatternHi := loadLow s.ppu.bgShifterPatternHi s.ppu.bgNextTileMsb
      bgShifterAttribLo := loadLow s.ppu.bgShifterAttribLo (spread (s.ppu.bgNextTileAttrib.getLsbD 0))
      bgShifterAttribHi := loadLow s.ppu.bgShifterAttribHi (spread (s.ppu.bgNextTileAttrib.getLsbD 1)) } }

/-- `UpdateShifters()` (R411). -/
def updateShifters (s : State) : State :=
  if s.ppu.renderBackground then
    { s with ppu :=
      { s.ppu with
        bgShifterPatternLo := s.ppu.bgShifterPatternLo <<< 1
        bgShifterPatternHi := s.ppu.bgShifterPatternHi <<< 1
        bgShifterAttribLo := s.ppu.bgShifterAttribLo <<< 1
        bgShifterAttribHi := s.ppu.bgShifterAttribHi <<< 1 } }
  else s

/-! ### Scroll updates, which happen only when rendering is enabled (R412 to R415, D22) -/

/-- The loopy register after a horizontal increment (R412). -/
def scrollXNext (v : Loopy) : Loopy :=
  if coarseX v = 31#5 then withNametableX (!nametableX v) (withCoarseX 0#5 v)
  else withCoarseX (coarseX v + 1#5) v

/-- The loopy register after a vertical increment (R413). -/
def scrollYNext (v : Loopy) : Loopy :=
  if fineY v ≠ 7#3 then withFineY (fineY v + 1#3) v
  else if coarseY v = 29#5 then withNametableY (!nametableY v) (withCoarseY 0#5 (withFineY 0#3 v))
  else if coarseY v = 31#5 then withCoarseY 0#5 (withFineY 0#3 v)
  else withCoarseY (coarseY v + 1#5) (withFineY 0#3 v)

/-- The horizontal fields of `t` copied into `v` (R414). -/
def copyHorizontal (t v : Loopy) : Loopy := withNametableX (nametableX t) (withCoarseX (coarseX t) v)

/-- The vertical fields of `t` copied into `v` (R415). -/
def copyVertical (t v : Loopy) : Loopy :=
  withCoarseY (coarseY t) (withNametableY (nametableY t) (withFineY (fineY t) v))

/-- Change `v` only while rendering is enabled. -/
def scrollUpdate (f : Loopy → Loopy → Loopy) (s : State) : State :=
  if s.ppu.renderingEnabled then { s with ppu := { s.ppu with v := f s.ppu.t s.ppu.v } } else s

/-- `IncrementScrollX()` (R412). -/
def incrementScrollX (s : State) : State := scrollUpdate (fun _ v => scrollXNext v) s

/-- `IncrementScrollY()` (R413). -/
def incrementScrollY (s : State) : State := scrollUpdate (fun _ v => scrollYNext v) s

/-- `TransferAddressX()` (R414). -/
def transferAddressX (s : State) : State := scrollUpdate copyHorizontal s

/-- `TransferAddressY()` (R415). -/
def transferAddressY (s : State) : State := scrollUpdate copyVertical s

/-! ### Vblank -/

/-- `VblankStart()` (R416). -/
def vblankStart (s : State) : State :=
  { s with ppu := { s.ppu with status := s.ppu.status ||| 0x80#8, nmi := s.ppu.nmi || s.ppu.enableNmi } }

/-- `PreRenderClear()` (R418). -/
def preRenderClear (s : State) : State :=
  { s with ppu := { s.ppu with status := s.ppu.status &&& 0x1F#8 } }

/-! ### Pixel output -/

/-- The bit a shifter shows through `0x8000 >> fine_x` (R420). -/
def shifterBit (fineX : BitVec 3) (shifter : Word) : Bool :=
  decide (shifter &&& (0x8000#16 >>> fineX.toNat) ≠ 0x0000#16)

/-- Two bits as a number, `(hi << 1) | lo`. -/
def twoBits (hi lo : Bool) : Nat := 2 * hi.toNat + lo.toNat

/-- The background palette number `pal` (R420). -/
def pixelPalette (p : Ppu) : Nat :=
  if p.renderBackground then
    twoBits (shifterBit p.fineX p.bgShifterAttribHi) (shifterBit p.fineX p.bgShifterAttribLo)
  else 0

/-- The background pixel `pix`, with the left-column mask (R420, R421). -/
def pixelValue (p : Ppu) : Nat :=
  if p.renderBackgroundLeft = false ∧ 1 ≤ p.cycle ∧ p.cycle ≤ 8 then 0
  else if p.renderBackground then
    twoBits (shifterBit p.fineX p.bgShifterPatternHi) (shifterBit p.fineX p.bgShifterPatternLo)
  else 0

/-- The palette address of the pixel: the backdrop for a transparent one (R422, R423). -/
def colourAddress (p : Ppu) : PpuAddr :=
  if pixelValue p = 0 then 0x3F00#14 else BitVec.ofNat 14 (0x3F00 + 4 * pixelPalette p + pixelValue p)

/-- The colour of the pixel (R423). -/
def pixelColour (s : State) : Colour := (ppuRead (colourAddress s.ppu) s).setWidth 6

/-- The frame write of `PixelOut()` (R425). -/
def writePixel (s : State) : State :=
  { s with ppu :=
    { s.ppu with
      frame := Picture.write s.ppu.frame (s.ppu.cycle - 1) s.ppu.scanline.toNat (pixelColour s) } }

/-- `PixelOut()` (R420 to R425). -/
def pixelOut (s : State) : State :=
  runIf (0 ≤ s.ppu.scanline ∧ s.ppu.scanline ≤ 239 ∧ 1 ≤ s.ppu.cycle ∧ s.ppu.cycle ≤ 256) writePixel s

/-! ### The raster counter and the step -/

/-- `AdvanceRaster()` (R426). -/
def advanceRaster (s : State) : State :=
  if 341 ≤ s.ppu.cycle + 1 then
    if 261 ≤ s.ppu.scanline + 1 then
      { s with ppu :=
        { s.ppu with cycle := 0, scanline := -1, frameComplete := true, oddFrame := !s.ppu.oddFrame } }
    else { s with ppu := { s.ppu with cycle := 0, scanline := s.ppu.scanline + 1 } }
  else { s with ppu := { s.ppu with cycle := s.ppu.cycle + 1 } }

/-- The optional odd-frame skip at (0, 0) (R402). -/
def skipOddFrame (s : State) : State :=
  runIf (s.config.oddFrameSkip = .oddFramesWhenRendering ∧ s.ppu.scanline = 0 ∧ s.ppu.cycle = 0 ∧
      s.ppu.oddFrame = true ∧ s.ppu.renderingEnabled = true)
    (fun s => { s with ppu := { s.ppu with cycle := 1 } }) s

/-- The shift and the fetch of one column inside a fetch window (R401, R404). -/
def fetchColumn (col : Nat) (s : State) : State :=
  let s := updateShifters s
  match (col - 1) % 8 with
  | 0 => fetchNametable (loadBackgroundShifters s)
  | 2 => fetchAttribute s
  | 4 => fetchPatternLow s
  | 6 => fetchPatternHigh s
  | 7 => incrementScrollX s
  | _ => s

/-- The pipeline of one column on lines -1 to 239, in the order of R401. -/
def renderColumn (line : Int) (col : Nat) (s : State) : State :=
  let s := runIf (line = -1 ∧ col = 1) preRenderClear s
  let s := runIf ((2 ≤ col ∧ col ≤ 257) ∨ (321 ≤ col ∧ col ≤ 337)) (fetchColumn col) s
  let s := runIf (col = 256) incrementScrollY s
  let s := runIf (col = 257) (fun s => transferAddressX (loadBackgroundShifters s)) s
  let s := runIf (col = 338 ∨ col = 340) fetchNametable s
  runIf (line = -1 ∧ 280 ≤ col ∧ col ≤ 304) transferAddressY s

/-- The actions of a step before the pixel: the pipeline and the vblank start (R401). -/
def rasterActions (s : State) : State :=
  let line := s.ppu.scanline
  let col := s.ppu.cycle
  let s := runIf (-1 ≤ line ∧ line ≤ 239) (renderColumn line col) s
  runIf (line = 241 ∧ col = 1) vblankStart s

/-- `PpuClock()` (R401). -/
def ppuClock (s : State) : State := advanceRaster (pixelOut (rasterActions (skipOddFrame s)))

end Sys2Proof.Machine
end

