-- ==== Sys2Proof/Machine/SystemClock.lean ====
section
/-! DEFINITION. One CPU cycle (spec/40_execution_pipeline.md rule R150) and one system tick (spec/63_system_clock_and_dma.md rule
R451). -/

namespace Sys2Proof.Machine

/-- `cycles <- cycles - 1`, the end of every CPU cycle (R150). -/
def countDown (s : State) : State := s.setCycles (s.cpu.cycles - 1)

/-- An instruction start: fetch, run, count the first cycle (R150). -/
def startInstr (s : State) : Result :=
  let f := fetchInstr s
  Result.andThen (exec f.1 f.2) countDown

/-- `CpuClock()` (R150). -/
def cpuClock (s : State) : Result := if s.cpu.cycles = 0 then startInstr s else .next (countDown s)

/-- The tick is a CPU slot (R15, R452). -/
def isCpuSlot (b : Bus) : Bool := decide (b.tick % 3 = 0)

/-- The CPU's or the DMA engine's part of a tick (R451, R460). -/
def clockCpuOrDma (s : State) : Result :=
  if s.bus.dmaTransfer = true ∧ s.config.dmaTickMode = .everyTick then .next (dmaStep s)
  else if isCpuSlot s.bus then
    if s.bus.dmaTransfer then .next (dmaStep s) else cpuClock s
  else .next s

/-- The end of a tick: forward a pending NMI, count the tick (R451). -/
def endTick (s : State) : State :=
  let s := if s.ppu.nmi then nmi { s with ppu := { s.ppu with nmi := false } } else s
  { s with bus := { s.bus with tick := s.bus.tick + 1 } }

/-- `SystemClock()` (R451). -/
def systemClock (s : State) : Result :=
  match s.cart with
  | none => .refused .noCartridge
  | some _ => Result.andThen (clockCpuOrDma (ppuClock s)) endTick

/-! ### Placing an instruction where the next tick fetches it -/

/-- The byte at a CPU address is RAM or PRG, so that it can be stored. -/
def holdsCode (s : State) (a : Word) : Bool :=
  decide (a.toNat ≤ 0x1FFF) || ((s.cart.bind (fun c => cpuMap c a)).isSome)

/-- Store a byte of a program from outside the machine: into RAM, or into PRG whatever P_PRG_WRITE says. -/
def placeByte (a : Word) (v : Byte) (s : State) : State :=
  match cartCpuWrite .writeThrough s.cart a v with
  | some c => { s with cart := some c }
  | none => ramWrite a v s

/-- Where the next fetch is made to happen: PC if the three bytes there can hold code, else 0x0200. -/
def placedPc (s : State) : Word :=
  if holdsCode s s.cpu.pc && holdsCode s (s.cpu.pc + 1#16) && holdsCode s (s.cpu.pc + 2#16) then s.cpu.pc
  else 0x0200#16

/-- A state whose next tick starts an instruction: a cartridge is inserted, the tick is a CPU slot, nothing is counting down, no
DMA transfer is in progress (log entry 6). -/
def readyToFetch (s : State) : State :=
  { s with
    cart := some (s.cart.getD blankCartridge)
    cpu := { s.cpu with cycles := 0 }
    bus := { s.bus with tick := s.bus.tick - s.bus.tick % 3, dmaTransfer := false } }

end Sys2Proof.Machine
end

