-- ==== Sys2Proof/Machine/Step.lean ====
section
/-! DEFINITION. The step of the machine: one tick of the system clock (spec/63_system_clock_and_dma.md rules R450, R451; log entry
1), and the placing of an instruction where the next step fetches it. -/

namespace Sys2Proof.Machine

/-- One step is one system tick (R5, R451). -/
def step (s : State) : Host.Outcome State Fault Refusal := systemClock s

/-- `s` with the instruction of `w` placed where the next step fetches it, so that the next step runs it (log entry 6). The word's
first byte is the opcode, the bits from `nbits` on are zero, three bytes are stored. -/
def State.withFetchWord (s : State) (nbits w : Nat) : State :=
  let v := w % 2 ^ nbits
  let r := readyToFetch s
  let pc := placedPc r
  placeByte (pc + 2#16) (BitVec.ofNat 8 (v / 65536))
    (placeByte (pc + 1#16) (BitVec.ofNat 8 (v / 256)) (placeByte pc (BitVec.ofNat 8 v) (r.setPc pc)))

end Sys2Proof.Machine
end

