-- ==== Sys2Proof/Machine/HostOps.lean ====
section
/-! DEFINITION. What the host can do between ticks (spec/63_system_clock_and_dma.md rules R470 to R474), the system reset
(spec/70_reset_and_hazards.md rule R480) and the power-on state (R482). `.systemClock` is `step`. -/

namespace Sys2Proof.Machine

/-- The power-on contents P_RAM_INIT and P_PPU_MEM_INIT (R7, R482). -/
structure PowerOnMemories where
  ram : Memory
  oam : Memory
  palette : Memory
  nametable0 : Memory
  nametable1 : Memory
  pattern0 : Memory
  pattern1 : Memory
deriving DecidableEq, Repr

/-- The state at power-on (R482): no cartridge, the given memories, registers as after reset (PC and opcode 0, log entry 7). -/
def powerOn (params : Params) (m : PowerOnMemories) : State :=
  { State.reset with
    cart := none
    config := params
    bus := { State.reset.bus with ram := m.ram }
    ppu :=
      { State.reset.ppu with
        oam := m.oam, palette := m.palette, nametable0 := m.nametable0, nametable1 := m.nametable1,
        pattern0 := m.pattern0, pattern1 := m.pattern1 } }

/-- The CPU part of the reset cascade (R480). -/
def resetCpu (s : State) : State :=
  let r := memReadWord resetVector (resetVector + 1#16)
    ((((s.setA 0x00#8).setX 0x00#8).setY 0x00#8).setS 0xFD#8 |>.setP 0x20#8)
  ((((r.2.setPc r.1).setAddrAbs 0x0000#16).setAddrRel 0x0000#16).setFetched 0x00#8).setCycles 8

/-- The PPU part of the reset cascade (R480): registers, pipeline and raster; the memories and the picture stay. -/
def resetPpu (p : Ppu) : Ppu :=
  { p with
    ctrl := 0x00#8, mask := 0x00#8, status := 0x00#8, v := 0x0000#15, t := 0x0000#15, fineX := 0#3, w := false,
    dataBuffer := 0x00#8, oamAddr := 0x00#8, bgNextTileId := 0x00#8, bgNextTileAttrib := 0x00#8,
    bgNextTileLsb := 0x00#8, bgNextTileMsb := 0x00#8, bgShifterPatternLo := 0x0000#16,
    bgShifterPatternHi := 0x0000#16, bgShifterAttribLo := 0x0000#16, bgShifterAttribHi := 0x0000#16,
    scanline := -1, cycle := 0, frameComplete := false, nmi := false, oddFrame := false }

/-- The bus part of the reset cascade (R480). -/
def resetBus (b : Bus) : Bus :=
  { b with
    tick := 0, dmaPage := 0x00#8, dmaAddr := 0x00#8, dmaData := 0x00#8, dmaDummy := true, dmaTransfer := false }

/-- `Reset()` (R480): cartridge (mapper 000: nothing, R86), CPU, PPU, bus. -/
def systemReset (s : State) : Result :=
  match s.cart with
  | none => .refused .noCartridge
  | some _ =>
    let c := resetCpu s
    .next { c with ppu := resetPpu c.ppu, bus := resetBus c.bus }

/-- `InsertCartridge(image)` (R84, R85, R470): it changes no other state. -/
def insertCartridge (image : List Byte) (s : State) : Result :=
  match loadImage image with
  | .ok c => .next { s with cart := some c }
  | .error _ => .refused .invalidImage

/-- `SetController(p, b)` (R470, R472). -/
def setController (c : Controller) (b : Byte) (s : State) : State :=
  match c with
  | .first => { s with bus := { s.bus with controllerInput0 := b } }
  | .second => { s with bus := { s.bus with controllerInput1 := b } }

/-- `Complete()` (R28). -/
def complete (s : State) : Bool := decide (s.cpu.cycles = 0)

/-- `ClearFrameComplete()` (R427, R470). -/
def clearFrameComplete (s : State) : State := { s with ppu := { s.ppu with frameComplete := false } }

/-- The host's operations (R470). -/
inductive HostOp where
  | systemClock
  | reset
  | insertCartridge (image : List Byte)
  | memRead (a : Word)
  | memWrite (a : Word) (v : Byte)
  | peek (a : Word)
  | complete
  | frameComplete
  | clearFrameComplete
  | frame
  | irq
  | setController (c : Controller) (b : Byte)
deriving DecidableEq, Repr

/-- The state after a host operation, or its refusal (R470). -/
def hostOp (op : HostOp) (s : State) : Result :=
  match op with
  | .systemClock => step s
  | .reset => systemReset s
  | .insertCartridge image => insertCartridge image s
  | .memRead a => .next (Sys2Proof.Machine.memRead a s).2
  | .memWrite a v => .next (Sys2Proof.Machine.memWrite a v s)
  | .peek _ => .next s
  | .complete => .next s
  | .frameComplete => .next s
  | .clearFrameComplete => .next (Sys2Proof.Machine.clearFrameComplete s)
  | .frame => .next s
  | .irq => .next (Sys2Proof.Machine.irq s)
  | .setController c b => .next (Sys2Proof.Machine.setController c b s)

/-- What a host operation returns to the host. -/
inductive HostAnswer where
  | nothing
  | byte (v : Byte)
  | flag (b : Bool)
  | picture (p : Picture)
deriving DecidableEq, Repr

/-- The answer of a host operation made at a state (R470). -/
def hostAnswer (op : HostOp) (s : State) : HostAnswer :=
  match op with
  | .memRead a => .byte (Sys2Proof.Machine.memRead a s).1
  | .peek a => .byte (Sys2Proof.Machine.peek a s)
  | .complete => .flag (Sys2Proof.Machine.complete s)
  | .frameComplete => .flag s.ppu.frameComplete
  | .frame => .picture s.ppu.frame
  | .systemClock | .reset | .insertCartridge _ | .memWrite _ _ | .clearFrameComplete | .irq | .setController _ _ => .nothing

/-- A run: the host operations of a launch, in order, up to the first refusal (R474). -/
def hostRun : List HostOp → State → Result
  | [], s => .next s
  | op :: rest, s =>
    match hostOp op s with
    | .next s' => hostRun rest s'
    | .fault e => .fault e
    | .refused e => .refused e

/-! ### The launch of a program and the end of its run -/

/-- The next tick is an instruction start: the CPU is clocked and nothing is left to count (R15, R150, R451). -/
def startsInstruction (s : State) : Bool :=
  s.cart.isSome && isCpuSlot s.bus && !s.bus.dmaTransfer && decide (s.cpu.cycles = 0)

/-- The next tick would fetch the opcode at `end_pc`, so that the run ends before that instruction executes (R474, D53). -/
def reachesEnd (endPc : Word) (s : State) : Bool := startsInstruction s && decide (s.cpu.pc = endPc)

/-- Clock the system up to the end of the run: the first instruction start at `end_pc`, or `budget` ticks, whichever comes first
(R474, D53; log entry 17). A refusal ends it as well. -/
def clockToEnd (endPc : Word) : Nat → State → Result
  | 0, s => .next s
  | budget + 1, s =>
    if reachesEnd endPc s then .next s
    else
      match step s with
      | .next t => clockToEnd endPc budget t
      | .fault e => .fault e
      | .refused e => .refused e

/-- A launch: the parameters, the power-on memories, the host operations made before the clocking, and where the run ends (R7, R474). -/
structure Launch where
  params : Params
  memories : PowerOnMemories
  setup : List HostOp
  endPc : Word
  tickBudget : Nat
deriving DecidableEq, Repr

/-- The run of a launch from power-on to its end state (R474, R482). -/
def launchRun (l : Launch) : Result :=
  match hostRun l.setup (powerOn l.params l.memories) with
  | .next s => clockToEnd l.endPc l.tickBudget s
  | .fault e => .fault e
  | .refused e => .refused e

end Sys2Proof.Machine
end

