-- ==== Sys2Proof/Safety.lean ====
section
/-! DEFINITION. What a safe run keeps: the invariant of the block's state, piece by piece; and the vocabulary the statements are
written in (effective address, operand read, what a store may change). -/

namespace Sys2Proof.Machine

/-- A cartridge as R84 and R85 construct it: at least one PRG bank, mapper 0, a mapper-000 mirroring mode, buffers in canonical
form and inside their sizes (R32, R33, R85). -/
def Cartridge.ok (c : Cartridge) : Bool :=
  decide (1 ≤ c.nPrg) && decide (c.mapperId = 0x00#8) &&
    (decide (c.mirror = .horizontal) || decide (c.mirror = .vertical)) &&
    Memory.wf (c.nPrg * 16384) c.prg && Memory.wf (if c.nChr = 0 then 8192 else c.nChr * 8192) c.chr

/-- The inserted cartridge, if there is one, is sound. -/
def cartOk (cart : Option Cartridge) : Bool :=
  match cart with
  | none => true
  | some c => c.ok

/-- Every memory of the PPU and the picture are in canonical form and inside their sizes (R39 to R42, R45). -/
def Ppu.memoriesOk (p : Ppu) : Bool :=
  Memory.wf 256 p.oam && Memory.wf 32 p.palette && Memory.wf 1024 p.nametable0 && Memory.wf 1024 p.nametable1 &&
    Memory.wf 4096 p.pattern0 && Memory.wf 4096 p.pattern1 && Picture.wf p.frame

/-- The raster position is one of the 341 x 262 (R44, R400). -/
def Ppu.rasterOk (p : Ppu) : Bool :=
  decide (p.cycle ≤ 340) && decide (-1 ≤ p.scanline) && decide (p.scanline ≤ 260)

/-- The sprite flags are never set and bits 4-0 of the status hold no state (R36, R424). -/
def Ppu.statusOk (p : Ppu) : Bool := decide (p.status &&& 0x7F#8 = 0x00#8)

/-- Between ticks no NMI is pending: it is consumed in the tick that raised it (R323, R451). -/
def Ppu.nmiConsumed (p : Ppu) : Bool := !p.nmi

/-- With no transfer in progress the engine waits, cursor 0, for its alignment tick (R461, R462). -/
def Bus.dmaIdleOk (b : Bus) : Bool := b.dmaTransfer || (b.dmaDummy && decide (b.dmaAddr = 0x00#8))

/-- While a transfer is in progress the instruction that started it still has cycles left (R28, R463). -/
def dmaHoldsCpu (s : State) : Bool := !s.bus.dmaTransfer || decide (1 ≤ s.cpu.cycles)

/-- All memories of the block in canonical form. -/
def State.memoriesOk (s : State) : Bool := Memory.wf 2048 s.bus.ram && s.ppu.memoriesOk && cartOk s.cart

/-- The invariant of the block between ticks. -/
def State.inv (s : State) : Bool :=
  s.memoriesOk && s.ppu.rasterOk && s.ppu.statusOk && s.ppu.nmiConsumed && s.bus.dmaIdleOk && dmaHoldsCpu s &&
    getFlag .u s.cpu.p && decide (s.cpu.cycles ≤ 8)

end Sys2Proof.Machine

/-! ### The vocabulary of the statements

Written from the rules alone, in numbers where the machine uses bit operations, so that a statement and a meaning are two
readings of the same rule. -/

namespace Sys2Proof.Claim

open Sys2Proof.Machine

/-- One flag of the live status register (R22). -/
def flag (f : Flag) (s : State) : Bool := getFlag f s.cpu.p

/-- A byte as a carry: 1 or 0 (R8's `bool`). -/
def bit (b : Bool) : Nat := if b then 1 else 0

/-- Bit 7 of a byte. -/
def sign (v : Byte) : Bool := decide (128 ≤ v.toNat)

/-- The page of an address, its high byte (R164). -/
def page (a : Word) : Nat := a.toNat / 256

/-- The CPU address of stack byte `x`: page 0x01 (R21). -/
def slot (x : Byte) : Word := 0x01#8 ++ x

/-- The zero-page byte at `z`: work RAM (R74). -/
def zeroPage (z : Byte) (s : State) : Byte := Memory.read s.bus.ram z.toNat

/-- The little-endian pointer at zero-page address `z`, wrapped within page 0x00 (R166, R167). -/
def zeroPagePointer (z : Byte) (s : State) : Word := zeroPage (z + 1#8) s ++ zeroPage z s

/-- The base address an indexed mode adds its index register to (R162, R163, R167); 0 for the modes that test no page. -/
def baseAddress (o : Operand) (s : State) : Word :=
  match o with
  | .abx a | .aby a => a
  | .izy z => zeroPagePointer z s
  | .imp | .imm _ | .zp0 _ | .zpx _ | .zpy _ | .rel _ | .abs _ | .ind _ | .izx _ => 0x0000#16

/-- The effective address of an operand (R155 to R167), at a state whose PC is past the operand bytes. IMP, REL and IND have none
of their own here: the latch stays. -/
def effectiveAddress (o : Operand) (s : State) : Word :=
  match o with
  | .imp | .rel _ | .ind _ => s.cpu.addrAbs
  | .imm _ => s.cpu.pc - 1#16
  | .zp0 z => z.setWidth 16
  | .zpx z => (z + s.cpu.x).setWidth 16
  | .zpy z => (z + s.cpu.y).setWidth 16
  | .abs a => a
  | .abx a => a + s.cpu.x.setWidth 16
  | .aby a => a + s.cpu.y.setWidth 16
  | .izx z => zeroPagePointer (z + s.cpu.x) s
  | .izy z => zeroPagePointer z s + s.cpu.y.setWidth 16

/-- Indexing changes the page, in the three modes that test it (R164). -/
def crossesPage (o : Operand) (s : State) : Bool :=
  match o with
  | .abx _ | .aby _ | .izy _ => decide (page (effectiveAddress o s) ≠ page (baseAddress o s))
  | .imp | .imm _ | .zp0 _ | .zpx _ | .zpy _ | .rel _ | .abs _ | .ind _ | .izx _ => false

/-- The operand value and the state after acquiring it (R153): A in mode IMP, the immediate byte in mode IMM, otherwise ONE
read of the effective address with its side effects. -/
def operandRead (o : Operand) (s : State) : Byte × State :=
  match o with
  | .imp => (s.cpu.a, s)
  | .imm b => (b, s)
  | .zp0 _ | .zpx _ | .zpy _ | .rel _ | .abs _ | .abx _ | .aby _ | .ind _ | .izx _ | .izy _ =>
    memRead (effectiveAddress o s) s

/-- The CPU after an operand was acquired in an instruction of `n` cycles: the countdown and the two latches, nothing else. -/
def afterRead (o : Operand) (n : Nat) (s : State) : Cpu :=
  { s.cpu with cycles := n, addrAbs := effectiveAddress o s, fetched := (operandRead o s).1 }

/-- The CPU after the address of a store was formed in an instruction of `n` cycles: no operand is read. -/
def afterAddress (o : Operand) (n : Nat) (s : State) : Cpu :=
  { s.cpu with cycles := n, addrAbs := effectiveAddress o s }

/-- Z and N are those of `v` (R11's `SetZN`). -/
def ZeroNegativeOf (v : Byte) (t : State) : Prop := flag .z t = decide (v.toNat = 0) ∧ flag .n t = sign v

/-- No flag but those of `fs` differs from what it was, and U is 1 (R150). -/
def OnlyFlags (fs : List Flag) (t s : State) : Prop :=
  flag .u t = true ∧ ∀ f, f ≠ .u → f ∉ fs → flag f t = flag f s

/-- Everything outside the CPU is that of `u`: bus, cartridge, PPU, parameters. -/
def SameDevices (t u : State) : Prop := t.bus = u.bus ∧ t.cart = u.cart ∧ t.ppu = u.ppu ∧ t.config = u.config

/-- The CPU addresses of RAM and of PRG space: the addresses of plain bytes, not of device registers. -/
def isMemory (a : Word) : Bool := decide (a.toNat ≤ 0x1FFF) || decide (0x8000 ≤ a.toNat)

/-- The PPU's own memories and the picture are untouched (R39 to R42, R45). -/
def PpuMemoriesKept (t s : State) : Prop :=
  t.ppu.oam = s.ppu.oam ∧ t.ppu.palette = s.ppu.palette ∧ t.ppu.nametable0 = s.ppu.nametable0 ∧
    t.ppu.nametable1 = s.ppu.nametable1 ∧ t.ppu.pattern0 = s.ppu.pattern0 ∧ t.ppu.pattern1 = s.ppu.pattern1 ∧
    t.ppu.frame = s.ppu.frame

/-- Every byte of every memory reads as before: RAM and PRG at every CPU address, the cartridge, the PPU memories. -/
def MemoryKept (t s : State) : Prop :=
  (∀ a, isMemory a = true → peek a t = peek a s) ∧ t.cart = s.cart ∧ PpuMemoriesKept t s

/-- Nothing outside the CPU changes. -/
def NothingStored (t s : State) : Prop := SameDevices t s ∧ MemoryKept t s

/-- How many bytes of PRG space repeat (R82): 16 KiB with one bank, else 32 KiB. -/
def prgSpan (s : State) : Nat :=
  match s.cart with
  | some c => if c.nPrg = 1 then 16384 else 32768
  | none => 32768

/-- Two CPU addresses of memory that reach the same byte: RAM mirrors (R74), PRG mirrors (R82). -/
def SameByte (s : State) (a b : Word) : Prop :=
  (a.toNat ≤ 0x1FFF ∧ b.toNat ≤ 0x1FFF ∧ a.toNat % 2048 = b.toNat % 2048) ∨
    (0x8000 ≤ a.toNat ∧ 0x8000 ≤ b.toNat ∧ a.toNat % prgSpan s = b.toNat % prgSpan s)

/-- A PRG store takes effect: a cartridge is inserted and P_PRG_WRITE is WRITE_THROUGH (R83). -/
def prgWritable (s : State) : Prop := ∃ c, s.cart = some c ∧ 1 ≤ c.nPrg ∧ s.config.prgWrite = .writeThrough

/-- One byte `v` was stored at `ea` and at no other byte of memory: every memory address that does not reach the byte of `ea` reads
as before; the addresses that do read `v` (in PRG space as R83 says, else as before); a store to memory touches no PPU state. -/
def StoredByte (ea : Word) (v : Byte) (t s : State) : Prop :=
  (∀ a, isMemory a = true → ¬ SameByte s a ea → peek a t = peek a s) ∧
    (ea.toNat ≤ 0x1FFF → ∀ a, SameByte s a ea → peek a t = v) ∧
    (0x8000 ≤ ea.toNat → prgWritable s → ∀ a, SameByte s a ea → peek a t = v) ∧
    (0x8000 ≤ ea.toNat → ¬ prgWritable s → ∀ a, isMemory a = true → peek a t = peek a s) ∧
    (isMemory ea = true → t.ppu = s.ppu)

/-- Only the stack bytes of `slots` were stored to: every other memory address reads as before, and nothing outside RAM changes. -/
def StackStored (slots : List Byte) (t s : State) : Prop :=
  (∀ a, isMemory a = true → (∀ x ∈ slots, ¬ SameByte s a (slot x)) → peek a t = peek a s) ∧
    t.bus = { s.bus with ram := t.bus.ram } ∧ t.cart = s.cart ∧ t.ppu = s.ppu ∧ t.config = s.config

/-- The word whose low byte is stack byte `x` and whose high byte is the next one. -/
def stackWord (x : Byte) (s : State) : Word := peek (slot (x + 1#8)) s ++ peek (slot x) s

/-- The word at a vector (R79). -/
def vectorWord (vec : Word) (s : State) : Word := peek (vec + 1#16) s ++ peek vec s

/-- The state an interrupt entry leaves (R330): PC and the changed P on the stack, B clear, U and I set, PC from the vector, the
countdown started, nothing else changed. -/
def Entered (vec : Word) (n : Nat) (t s : State) : Prop :=
  t.cpu =
      { s.cpu with
        p := (s.cpu.p &&& 0xEF#8) ||| 0x24#8, pc := vectorWord vec s, s := s.cpu.s - 3#8, cycles := n } ∧
    peek (slot s.cpu.s) t ++ peek (slot (s.cpu.s - 1#8)) t = s.cpu.pc ∧ peek (slot (s.cpu.s - 2#8)) t = t.cpu.p ∧
    StackStored [s.cpu.s, s.cpu.s - 1#8, s.cpu.s - 2#8] t s

end Sys2Proof.Claim
end

