-- ==== Sys2Proof/Certificates/Slice0/Obligations.lean ====
section
/-! DEFINITION. The statements about the machine, from the numbered rules of spec/. The vocabulary is Safety.lean's. A docstring names
the rules, and the spec's decision or the log entry where a clause rests on one. -/

open Sys2Proof Sys2Proof.Machine Sys2Proof.Claim

/-! ### Encoding -/

/-- Decoding the encoding of a well-formed instruction gives it back with the bytes after it, for every instruction and every value
of its operand (R120 to R124). -/
def Obligations.DecodeOfEncode : Prop :=
  ∀ (i : Instr) (rest : List Byte), i.wf = true → decode (encode i ++ rest) = .ok (i, rest)

/-- Whatever decodes is well-formed and is the encoding of what it decodes to: each word has one meaning (R123). -/
def Obligations.EncodeOfDecode : Prop :=
  ∀ (bytes : List Byte) (i : Instr) (rest : List Byte),
    decode bytes = .ok (i, rest) → i.wf = true ∧ bytes = encode i ++ rest

/-- No opcode value is reserved: with two more bytes at hand every opcode byte decodes, to an instruction of that opcode whose length
is its row's mode's, and its row has at least one cycle (R121, R123, R127). -/
def Obligations.EveryOpcodeDecodes : Prop :=
  ∀ (op b1 b2 : Byte) (rest : List Byte),
    1 ≤ (rowOf op).cycles ∧
      ∃ i, decode (op :: b1 :: b2 :: rest) = .ok (i, (op :: b1 :: b2 :: rest).drop i.length) ∧
        i.opcode = op ∧ i.operand.mode = (rowOf op).mode ∧ i.length = (rowOf op).mode.length

/-- Words written out from the encodings of R121, R122 and R124: one for most modes and families, with the signed offset and the byte
order of a word. -/
def Obligations.SampleWords : Prop :=
  decode [0x69#8, 0x42#8] = .ok (.adcImm 0x42#8, []) ∧
    decode [0xBD#8, 0xF0#8, 0x12#8] = .ok (.ldaAbx 0x12F0#16, []) ∧
    decode [0x91#8, 0x00#8] = .ok (.staIzy 0x00#8, []) ∧
    decode [0x96#8, 0xFF#8] = .ok (.stxZpy 0xFF#8, []) ∧
    decode [0x0A#8] = .ok (.aslAcc, []) ∧
    decode [0xD0#8, 0xFB#8] = .ok (.bne (-5), []) ∧
    decode [0x70#8, 0x7F#8] = .ok (.bvs 127, []) ∧
    decode [0x10#8, 0x80#8] = .ok (.bpl (-128), []) ∧
    decode [0x6C#8, 0xFF#8, 0x30#8] = .ok (.jmpInd 0x30FF#16, []) ∧
    decode [0x20#8, 0x20#8, 0x80#8] = .ok (.jsr 0x8020#16, []) ∧
    decode [0x00#8, 0xAA#8] = .ok (.brk, [0xAA#8]) ∧
    decode [0x1C#8, 0xF0#8, 0x12#8] = .ok (.nopAbx1C 0x12F0#16, []) ∧
    decode [0x02#8, 0xA9#8, 0x05#8] = .ok (.filler02, [0xA9#8, 0x05#8]) ∧
    decode [0x6C#8, 0xFF#8] = .error (.missingOperand 0x6C#8) ∧ decode [] = .error .noOpcode

/-! ### The forms of the instructions, from the opcode lists of spec/41 to spec/44 -/

namespace Sys2Proof.Claim

/-- The forms of ADC with their opcodes and base cycles (R201). -/
def adcForm (o : Operand) : Option (Instr × Byte × Nat) :=
  match o with
  | .imm b => some (.adcImm b, 0x69#8, 2)
  | .zp0 z => some (.adcZp0 z, 0x65#8, 3)
  | .zpx z => some (.adcZpx z, 0x75#8, 4)
  | .abs a => some (.adcAbs a, 0x6D#8, 4)
  | .abx a => some (.adcAbx a, 0x7D#8, 4)
  | .aby a => some (.adcAby a, 0x79#8, 4)
  | .izx z => some (.adcIzx z, 0x61#8, 6)
  | .izy z => some (.adcIzy z, 0x71#8, 5)
  | .imp | .zpy _ | .rel _ | .ind _ => none

/-- The forms of SBC with their opcodes and base cycles (R202). -/
def sbcForm (o : Operand) : Option (Instr × Byte × Nat) :=
  match o with
  | .imm b => some (.sbcImm b, 0xE9#8, 2)
  | .zp0 z => some (.sbcZp0 z, 0xE5#8, 3)
  | .zpx z => some (.sbcZpx z, 0xF5#8, 4)
  | .abs a => some (.sbcAbs a, 0xED#8, 4)
  | .abx a => some (.sbcAbx a, 0xFD#8, 4)
  | .aby a => some (.sbcAby a, 0xF9#8, 4)
  | .izx z => some (.sbcIzx z, 0xE1#8, 6)
  | .izy z => some (.sbcIzy z, 0xF1#8, 5)
  | .imp | .zpy _ | .rel _ | .ind _ => none

/-- The forms of AND with their opcodes and base cycles (R203). -/
def andForm (o : Operand) : Option (Instr × Byte × Nat) :=
  match o with
  | .imm b => some (.andImm b, 0x29#8, 2)
  | .zp0 z => some (.andZp0 z, 0x25#8, 3)
  | .zpx z => some (.andZpx z, 0x35#8, 4)
  | .abs a => some (.andAbs a, 0x2D#8, 4)
  | .abx a => some (.andAbx a, 0x3D#8, 4)
  | .aby a => some (.andAby a, 0x39#8, 4)
  | .izx z => some (.andIzx z, 0x21#8, 6)
  | .izy z => some (.andIzy z, 0x31#8, 5)
  | .imp | .zpy _ | .rel _ | .ind _ => none

/-- The forms of ORA with their opcodes and base cycles (R204). -/
def oraForm (o : Operand) : Option (Instr × Byte × Nat) :=
  match o with
  | .imm b => some (.oraImm b, 0x09#8, 2)
  | .zp0 z => some (.oraZp0 z, 0x05#8, 3)
  | .zpx z => some (.oraZpx z, 0x15#8, 4)
  | .abs a => some (.oraAbs a, 0x0D#8, 4)
  | .abx a => some (.oraAbx a, 0x1D#8, 4)
  | .aby a => some (.oraAby a, 0x19#8, 4)
  | .izx z => some (.oraIzx z, 0x01#8, 6)
  | .izy z => some (.oraIzy z, 0x11#8, 5)
  | .imp | .zpy _ | .rel _ | .ind _ => none

/-- The forms of EOR with their opcodes and base cycles (R205). -/
def eorForm (o : Operand) : Option (Instr × Byte × Nat) :=
  match o with
  | .imm b => some (.eorImm b, 0x49#8, 2)
  | .zp0 z => some (.eorZp0 z, 0x45#8, 3)
  | .zpx z => some (.eorZpx z, 0x55#8, 4)
  | .abs a => some (.eorAbs a, 0x4D#8, 4)
  | .abx a => some (.eorAbx a, 0x5D#8, 4)
  | .aby a => some (.eorAby a, 0x59#8, 4)
  | .izx z => some (.eorIzx z, 0x41#8, 6)
  | .izy z => some (.eorIzy z, 0x51#8, 5)
  | .imp | .zpy _ | .rel _ | .ind _ => none

/-- The forms of CMP with their opcodes and base cycles (R207). -/
def cmpForm (o : Operand) : Option (Instr × Byte × Nat) :=
  match o with
  | .imm b => some (.cmpImm b, 0xC9#8, 2)
  | .zp0 z => some (.cmpZp0 z, 0xC5#8, 3)
  | .zpx z => some (.cmpZpx z, 0xD5#8, 4)
  | .abs a => some (.cmpAbs a, 0xCD#8, 4)
  | .abx a => some (.cmpAbx a, 0xDD#8, 4)
  | .aby a => some (.cmpAby a, 0xD9#8, 4)
  | .izx z => some (.cmpIzx z, 0xC1#8, 6)
  | .izy z => some (.cmpIzy z, 0xD1#8, 5)
  | .imp | .zpy _ | .rel _ | .ind _ => none

/-- The forms of LDA with their opcodes and base cycles (R270). -/
def ldaForm (o : Operand) : Option (Instr × Byte × Nat) :=
  match o with
  | .imm b => some (.ldaImm b, 0xA9#8, 2)
  | .zp0 z => some (.ldaZp0 z, 0xA5#8, 3)
  | .zpx z => some (.ldaZpx z, 0xB5#8, 4)
  | .abs a => some (.ldaAbs a, 0xAD#8, 4)
  | .abx a => some (.ldaAbx a, 0xBD#8, 4)
  | .aby a => some (.ldaAby a, 0xB9#8, 4)
  | .izx z => some (.ldaIzx z, 0xA1#8, 6)
  | .izy z => some (.ldaIzy z, 0xB1#8, 5)
  | .imp | .zpy _ | .rel _ | .ind _ => none

/-- The forms of BIT with their opcodes and base cycles (R206). -/
def bitForm (o : Operand) : Option (Instr × Byte × Nat) :=
  match o with
  | .zp0 z => some (.bitZp0 z, 0x24#8, 3)
  | .abs a => some (.bitAbs a, 0x2C#8, 4)
  | .imp | .imm _ | .zpx _ | .zpy _ | .rel _ | .abx _ | .aby _ | .ind _ | .izx _ | .izy _ => none

/-- The forms of CPX with their opcodes and base cycles (R208). -/
def cpxForm (o : Operand) : Option (Instr × Byte × Nat) :=
  match o with
  | .imm b => some (.cpxImm b, 0xE0#8, 2)
  | .zp0 z => some (.cpxZp0 z, 0xE4#8, 3)
  | .abs a => some (.cpxAbs a, 0xEC#8, 4)
  | .imp | .zpx _ | .zpy _ | .rel _ | .abx _ | .aby _ | .ind _ | .izx _ | .izy _ => none

/-- The forms of CPY with their opcodes and base cycles (R209). -/
def cpyForm (o : Operand) : Option (Instr × Byte × Nat) :=
  match o with
  | .imm b => some (.cpyImm b, 0xC0#8, 2)
  | .zp0 z => some (.cpyZp0 z, 0xC4#8, 3)
  | .abs a => some (.cpyAbs a, 0xCC#8, 4)
  | .imp | .zpx _ | .zpy _ | .rel _ | .abx _ | .aby _ | .ind _ | .izx _ | .izy _ => none

/-- The forms of INC with their opcodes and base cycles (R210). -/
def incForm (o : Operand) : Option (Instr × Byte × Nat) :=
  match o with
  | .zp0 z => some (.incZp0 z, 0xE6#8, 5)
  | .zpx z => some (.incZpx z, 0xF6#8, 6)
  | .abs a => some (.incAbs a, 0xEE#8, 6)
  | .abx a => some (.incAbx a, 0xFE#8, 7)
  | .imp | .imm _ | .zpy _ | .rel _ | .aby _ | .ind _ | .izx _ | .izy _ => none

/-- The forms of DEC with their opcodes and base cycles (R211). -/
def decForm (o : Operand) : Option (Instr × Byte × Nat) :=
  match o with
  | .zp0 z => some (.decZp0 z, 0xC6#8, 5)
  | .zpx z => some (.decZpx z, 0xD6#8, 6)
  | .abs a => some (.decAbs a, 0xCE#8, 6)
  | .abx a => some (.decAbx a, 0xDE#8, 7)
  | .imp | .imm _ | .zpy _ | .rel _ | .aby _ | .ind _ | .izx _ | .izy _ => none

/-- The forms of ASL with their opcodes and base cycles (R231). -/
def aslForm (o : Operand) : Option (Instr × Byte × Nat) :=
  match o with
  | .imp => some (.aslAcc, 0x0A#8, 2)
  | .zp0 z => some (.aslZp0 z, 0x06#8, 5)
  | .zpx z => some (.aslZpx z, 0x16#8, 6)
  | .abs a => some (.aslAbs a, 0x0E#8, 6)
  | .abx a => some (.aslAbx a, 0x1E#8, 7)
  | .imm _ | .zpy _ | .rel _ | .aby _ | .ind _ | .izx _ | .izy _ => none

/-- The forms of LSR with their opcodes and base cycles (R232). -/
def lsrForm (o : Operand) : Option (Instr × Byte × Nat) :=
  match o with
  | .imp => some (.lsrAcc, 0x4A#8, 2)
  | .zp0 z => some (.lsrZp0 z, 0x46#8, 5)
  | .zpx z => some (.lsrZpx z, 0x56#8, 6)
  | .abs a => some (.lsrAbs a, 0x4E#8, 6)
  | .abx a => some (.lsrAbx a, 0x5E#8, 7)
  | .imm _ | .zpy _ | .rel _ | .aby _ | .ind _ | .izx _ | .izy _ => none

/-- The forms of ROL with their opcodes and base cycles (R233). -/
def rolForm (o : Operand) : Option (Instr × Byte × Nat) :=
  match o with
  | .imp => some (.rolAcc, 0x2A#8, 2)
  | .zp0 z => some (.rolZp0 z, 0x26#8, 5)
  | .zpx z => some (.rolZpx z, 0x36#8, 6)
  | .abs a => some (.rolAbs a, 0x2E#8, 6)
  | .abx a => some (.rolAbx a, 0x3E#8, 7)
  | .imm _ | .zpy _ | .rel _ | .aby _ | .ind _ | .izx _ | .izy _ => none

/-- The forms of ROR with their opcodes and base cycles (R234). -/
def rorForm (o : Operand) : Option (Instr × Byte × Nat) :=
  match o with
  | .imp => some (.rorAcc, 0x6A#8, 2)
  | .zp0 z => some (.rorZp0 z, 0x66#8, 5)
  | .zpx z => some (.rorZpx z, 0x76#8, 6)
  | .abs a => some (.rorAbs a, 0x6E#8, 6)
  | .abx a => some (.rorAbx a, 0x7E#8, 7)
  | .imm _ | .zpy _ | .rel _ | .aby _ | .ind _ | .izx _ | .izy _ => none

/-- The forms of LDX with their opcodes and base cycles (R271). -/
def ldxForm (o : Operand) : Option (Instr × Byte × Nat) :=
  match o with
  | .imm b => some (.ldxImm b, 0xA2#8, 2)
  | .zp0 z => some (.ldxZp0 z, 0xA6#8, 3)
  | .zpy z => some (.ldxZpy z, 0xB6#8, 4)
  | .abs a => some (.ldxAbs a, 0xAE#8, 4)
  | .aby a => some (.ldxAby a, 0xBE#8, 4)
  | .imp | .zpx _ | .rel _ | .abx _ | .ind _ | .izx _ | .izy _ => none

/-- The forms of LDY with their opcodes and base cycles (R272). -/
def ldyForm (o : Operand) : Option (Instr × Byte × Nat) :=
  match o with
  | .imm b => some (.ldyImm b, 0xA0#8, 2)
  | .zp0 z => some (.ldyZp0 z, 0xA4#8, 3)
  | .zpx z => some (.ldyZpx z, 0xB4#8, 4)
  | .abs a => some (.ldyAbs a, 0xAC#8, 4)
  | .abx a => some (.ldyAbx a, 0xBC#8, 4)
  | .imp | .zpy _ | .rel _ | .aby _ | .ind _ | .izx _ | .izy _ => none

/-- The forms of STA with their opcodes and base cycles (R273). -/
def staForm (o : Operand) : Option (Instr × Byte × Nat) :=
  match o with
  | .zp0 z => some (.staZp0 z, 0x85#8, 3)
  | .zpx z => some (.staZpx z, 0x95#8, 4)
  | .abs a => some (.staAbs a, 0x8D#8, 4)
  | .abx a => some (.staAbx a, 0x9D#8, 5)
  | .aby a => some (.staAby a, 0x99#8, 5)
  | .izx z => some (.staIzx z, 0x81#8, 6)
  | .izy z => some (.staIzy z, 0x91#8, 6)
  | .imp | .imm _ | .zpy _ | .rel _ | .ind _ => none

/-- The forms of STX with their opcodes and base cycles (R274). -/
def stxForm (o : Operand) : Option (Instr × Byte × Nat) :=
  match o with
  | .zp0 z => some (.stxZp0 z, 0x86#8, 3)
  | .zpy z => some (.stxZpy z, 0x96#8, 4)
  | .abs a => some (.stxAbs a, 0x8E#8, 4)
  | .imp | .imm _ | .zpx _ | .rel _ | .abx _ | .aby _ | .ind _ | .izx _ | .izy _ => none

/-- The forms of STY with their opcodes and base cycles (R275). -/
def styForm (o : Operand) : Option (Instr × Byte × Nat) :=
  match o with
  | .zp0 z => some (.styZp0 z, 0x84#8, 3)
  | .zpx z => some (.styZpx z, 0x94#8, 4)
  | .abs a => some (.styAbs a, 0x8C#8, 4)
  | .imp | .imm _ | .zpy _ | .rel _ | .abx _ | .aby _ | .ind _ | .izx _ | .izy _ => none

end Sys2Proof.Claim

/-! ### Arithmetic, logic, compare -/

/-- ADC (R201): for every form and state the instruction completes, with the sum, the four flags and nothing else. -/
def Obligations.AddWithCarry : Prop :=
  ∀ (o : Operand) (i : Instr) (op : Byte) (n : Nat) (s : State), adcForm o = some (i, op, n) →
    let m := (operandRead o s).1
    let sum := s.cpu.a.toNat + m.toNat + bit (flag .c s)
    let r : Byte := BitVec.ofNat 8 sum
    i.opcode = op ∧ ∃ t, exec i s = .next t ∧
      t.cpu = { afterRead o (n + bit (crossesPage o s)) s with a := r, p := t.cpu.p } ∧
      flag .c t = decide (0xFF < sum) ∧ flag .v t = (decide (sign s.cpu.a = sign m) && decide (sign r ≠ sign s.cpu.a)) ∧
      ZeroNegativeOf r t ∧ OnlyFlags [.c, .z, .v, .n] t s ∧ SameDevices t (operandRead o s).2 ∧ MemoryKept t s

/-- SBC (R202): the addition of `W = M ^ 0xFF`; carry set means that no borrow occurred. -/
def Obligations.SubtractWithBorrow : Prop :=
  ∀ (o : Operand) (i : Instr) (op : Byte) (n : Nat) (s : State), sbcForm o = some (i, op, n) →
    let m := (operandRead o s).1
    let w : Byte := m ^^^ 0xFF#8
    let sum := s.cpu.a.toNat + w.toNat + bit (flag .c s)
    let r : Byte := BitVec.ofNat 8 sum
    i.opcode = op ∧ ∃ t, exec i s = .next t ∧
      t.cpu = { afterRead o (n + bit (crossesPage o s)) s with a := r, p := t.cpu.p } ∧
      flag .c t = decide (0xFF < sum) ∧ flag .c t = decide (m.toNat + (1 - bit (flag .c s)) ≤ s.cpu.a.toNat) ∧
      flag .v t = (decide (sign r ≠ sign s.cpu.a) && decide (sign r ≠ sign w)) ∧
      ZeroNegativeOf r t ∧ OnlyFlags [.c, .z, .v, .n] t s ∧ SameDevices t (operandRead o s).2 ∧ MemoryKept t s

/-- The law of a logical operation on A. -/
def Sys2Proof.Claim.LogicLaw (form : Operand → Option (Instr × Byte × Nat)) (g : Byte → Byte → Byte) : Prop :=
  ∀ (o : Operand) (i : Instr) (op : Byte) (n : Nat) (s : State), form o = some (i, op, n) →
    let r := g s.cpu.a (operandRead o s).1
    i.opcode = op ∧ ∃ t, exec i s = .next t ∧
      t.cpu = { afterRead o (n + bit (crossesPage o s)) s with a := r, p := t.cpu.p } ∧
      ZeroNegativeOf r t ∧ OnlyFlags [.z, .n] t s ∧ SameDevices t (operandRead o s).2 ∧ MemoryKept t s

/-- AND, ORA, EOR (R203, R204, R205). -/
def Obligations.LogicOnAccumulator : Prop :=
  LogicLaw andForm (fun a m => a &&& m) ∧ LogicLaw oraForm (fun a m => a ||| m) ∧
    LogicLaw eorForm (fun a m => a ^^^ m)

/-- BIT (R206): Z from `A & M`, N and V from bits 7 and 6 of M; A is unchanged. -/
def Obligations.BitTest : Prop :=
  ∀ (o : Operand) (i : Instr) (op : Byte) (n : Nat) (s : State), bitForm o = some (i, op, n) →
    let m := (operandRead o s).1
    i.opcode = op ∧ ∃ t, exec i s = .next t ∧ t.cpu = { afterRead o n s with p := t.cpu.p } ∧
      flag .z t = decide ((s.cpu.a &&& m).toNat = 0) ∧ flag .n t = sign m ∧ flag .v t = decide (64 ≤ m.toNat % 128) ∧
      OnlyFlags [.z, .n, .v] t s ∧ SameDevices t (operandRead o s).2 ∧ MemoryKept t s

/-- The law of a comparison of a register with the operand. -/
def Sys2Proof.Claim.CompareLaw (form : Operand → Option (Instr × Byte × Nat)) (reg : Cpu → Byte) : Prop :=
  ∀ (o : Operand) (i : Instr) (op : Byte) (n : Nat) (s : State), form o = some (i, op, n) →
    let m := (operandRead o s).1
    i.opcode = op ∧ ∃ t, exec i s = .next t ∧
      t.cpu = { afterRead o (n + bit (crossesPage o s)) s with p := t.cpu.p } ∧
      flag .c t = decide (m.toNat ≤ (reg s.cpu).toNat) ∧ ZeroNegativeOf (reg s.cpu - m) t ∧
      OnlyFlags [.c, .z, .n] t s ∧ SameDevices t (operandRead o s).2 ∧ MemoryKept t s

/-- CMP, CPX, CPY (R207, R208, R209); CPX and CPY have no form that tests a page. -/
def Obligations.CompareRegisters : Prop :=
  CompareLaw cmpForm Cpu.a ∧ CompareLaw cpxForm Cpu.x ∧ CompareLaw cpyForm Cpu.y

/-! ### Increment, decrement, shift, rotate -/

/-- The law of INC and DEC: one read, then one write of the same address (log entry 13: D48, no dummy write). -/
def Sys2Proof.Claim.ModifyLaw (form : Operand → Option (Instr × Byte × Nat)) (g : Byte → Byte) : Prop :=
  ∀ (o : Operand) (i : Instr) (op : Byte) (n : Nat) (s : State), form o = some (i, op, n) →
    let r := g (operandRead o s).1
    i.opcode = op ∧ ∃ t, exec i s = .next t ∧ t.cpu = { afterRead o n s with p := t.cpu.p } ∧
      ZeroNegativeOf r t ∧ OnlyFlags [.z, .n] t s ∧
      SameDevices t (memWrite (effectiveAddress o s) r (operandRead o s).2) ∧
      StoredByte (effectiveAddress o s) r t s

/-- INC and DEC (R210, R211); the count of the ABX form is fixed. -/
def Obligations.IncrementDecrementMemory : Prop :=
  ModifyLaw incForm (fun m => m + 1#8) ∧ ModifyLaw decForm (fun m => m - 1#8)

/-- INX, INY, DEX, DEY (R212 to R215). -/
def Obligations.IncrementDecrementIndex : Prop :=
  ∀ s : State,
    (Instr.opcode .inx = 0xE8#8 ∧ ∃ t, exec .inx s = .next t ∧
      t.cpu = { afterRead .imp 2 s with x := s.cpu.x + 1#8, p := t.cpu.p } ∧
      ZeroNegativeOf (s.cpu.x + 1#8) t ∧ OnlyFlags [.z, .n] t s ∧ NothingStored t s) ∧
    (Instr.opcode .iny = 0xC8#8 ∧ ∃ t, exec .iny s = .next t ∧
      t.cpu = { afterRead .imp 2 s with y := s.cpu.y + 1#8, p := t.cpu.p } ∧
      ZeroNegativeOf (s.cpu.y + 1#8) t ∧ OnlyFlags [.z, .n] t s ∧ NothingStored t s) ∧
    (Instr.opcode .dex = 0xCA#8 ∧ ∃ t, exec .dex s = .next t ∧
      t.cpu = { afterRead .imp 2 s with x := s.cpu.x - 1#8, p := t.cpu.p } ∧
      ZeroNegativeOf (s.cpu.x - 1#8) t ∧ OnlyFlags [.z, .n] t s ∧ NothingStored t s) ∧
    (Instr.opcode .dey = 0x88#8 ∧ ∃ t, exec .dey s = .next t ∧
      t.cpu = { afterRead .imp 2 s with y := s.cpu.y - 1#8, p := t.cpu.p } ∧
      ZeroNegativeOf (s.cpu.y - 1#8) t ∧ OnlyFlags [.z, .n] t s ∧ NothingStored t s)

/-- The law of a shift or rotate: `r` is the result from the operand and the old carry, `out` the bit that leaves. The
accumulator form writes A and stores nothing; the memory forms write the address they read. -/
def Sys2Proof.Claim.ShiftLaw (form : Operand → Option (Instr × Byte × Nat)) (result : Nat → Nat → Nat)
    (out : Nat → Bool) : Prop :=
  ∀ (o : Operand) (i : Instr) (op : Byte) (n : Nat) (s : State), form o = some (i, op, n) →
    let m := (operandRead o s).1
    let r : Byte := BitVec.ofNat 8 (result m.toNat (bit (flag .c s)))
    i.opcode = op ∧ ∃ t, exec i s = .next t ∧ flag .c t = out m.toNat ∧ ZeroNegativeOf r t ∧ OnlyFlags [.c, .z, .n] t s ∧
      (o = .imp → t.cpu = { afterRead o n s with a := r, p := t.cpu.p } ∧ NothingStored t s) ∧
      (o ≠ .imp → t.cpu = { afterRead o n s with p := t.cpu.p } ∧
        SameDevices t (memWrite (effectiveAddress o s) r (operandRead o s).2) ∧
        StoredByte (effectiveAddress o s) r t s)

/-- ASL, LSR, ROL, ROR (R230 to R234), in numbers: doubling and halving, the carry entering at the other end. A memory form makes one
read and one write and no dummy write: the spec's D48 (log entry 13). -/
def Obligations.ShiftAndRotate : Prop :=
  ShiftLaw aslForm (fun m _ => 2 * m) (fun m => decide (128 ≤ m)) ∧
    ShiftLaw lsrForm (fun m _ => m / 2) (fun m => decide (m % 2 = 1)) ∧
    ShiftLaw rolForm (fun m c => 2 * m + c) (fun m => decide (128 ≤ m)) ∧
    ShiftLaw rorForm (fun m c => 128 * c + m / 2) (fun m => decide (m % 2 = 1))

/-! ### Branches, jumps, subroutines, BRK, RTI -/

/-- The branches with their opcodes, the flag and the value each tests (R241 to R248). -/
def Sys2Proof.Claim.branches (r : Int) : List (Instr × Byte × Flag × Bool) :=
  [(.bcc r, 0x90#8, .c, false), (.bcs r, 0xB0#8, .c, true), (.beq r, 0xF0#8, .z, true), (.bmi r, 0x30#8, .n, true),
    (.bne r, 0xD0#8, .z, false), (.bpl r, 0x10#8, .n, false), (.bvc r, 0x50#8, .v, false), (.bvs r, 0x70#8, .v, true)]

/-- The eight branches (R240 to R248): 2 cycles, 3 when taken, 4 when taken to another page than the next instruction's. -/
def Obligations.BranchOnFlag : Prop :=
  ∀ (r : Int) (i : Instr) (op : Byte) (f : Flag) (value : Bool) (s : State), (i, op, f, value) ∈ branches r →
    let target : Word := BitVec.ofInt 16 (s.cpu.pc.toNat + r)
    let taken := decide (flag f s = value)
    i.opcode = op ∧ ∃ t, exec i s = .next t ∧
      t.cpu =
        { s.cpu with
          pc := if taken then target else s.cpu.pc
          cycles := 2 + bit taken + bit (taken && decide (page target ≠ page s.cpu.pc))
          addrRel := BitVec.ofInt 16 r, p := t.cpu.p } ∧
      OnlyFlags [] t s ∧ NothingStored t s

/-- JMP (R250, R165): the absolute form; the indirect form reads its two pointer bytes, the second within the same page when the
pointer ends in 0xFF. That the low byte is read before the high byte is the spec's D34 (log entry 13). -/
def Obligations.JumpTargets : Prop :=
  ∀ (a : Word) (s : State),
    (Instr.opcode (.jmpAbs a) = 0x4C#8 ∧ ∃ t, exec (.jmpAbs a) s = .next t ∧
      t.cpu = { s.cpu with pc := a, cycles := 3, addrAbs := a, p := t.cpu.p } ∧ OnlyFlags [] t s ∧ NothingStored t s) ∧
    (let second : Word := if a.toNat % 256 = 255 then a - 255#16 else a + 1#16
     let lo := memRead a s
     let hi := memRead second lo.2
     Instr.opcode (.jmpInd a) = 0x6C#8 ∧ ∃ t, exec (.jmpInd a) s = .next t ∧
      t.cpu = { s.cpu with pc := hi.1 ++ lo.1, cycles := 5, addrAbs := hi.1 ++ lo.1, p := t.cpu.p } ∧
      OnlyFlags [] t s ∧ SameDevices t hi.2 ∧ MemoryKept t s)

/-- JSR (R252): the address of its last byte is pushed, high byte at the higher stack address. -/
def Obligations.CallPushesReturnAddress : Prop :=
  ∀ (a : Word) (s : State),
    Instr.opcode (.jsr a) = 0x20#8 ∧ ∃ t, exec (.jsr a) s = .next t ∧
      t.cpu = { s.cpu with pc := a, s := s.cpu.s - 2#8, cycles := 6, addrAbs := a, p := t.cpu.p } ∧
      peek (slot s.cpu.s) t ++ peek (slot (s.cpu.s - 1#8)) t = s.cpu.pc - 1#16 ∧
      OnlyFlags [] t s ∧ StackStored [s.cpu.s, s.cpu.s - 1#8] t s

/-- RTS (R254): the word above the stack pointer, plus one. -/
def Obligations.ReturnPullsAndIncrements : Prop :=
  ∀ s : State,
    Instr.opcode .rts = 0x60#8 ∧ ∃ t, exec .rts s = .next t ∧
      t.cpu =
        { afterRead .imp 6 s with pc := stackWord (s.cpu.s + 1#8) s + 1#16, s := s.cpu.s + 2#8, p := t.cpu.p } ∧
      OnlyFlags [] t s ∧ NothingStored t s

/-- BRK (R256): PC + 1, then P with B and U set in the copy, are pushed; only the live I changes; PC comes from the IRQ vector. The
choices are the spec's D6 and D10 (log entry 13). -/
def Obligations.BreakEntersIrqVector : Prop :=
  ∀ s : State,
    Instr.opcode .brk = 0x00#8 ∧ ∃ t, exec .brk s = .next t ∧
      t.cpu = { afterRead .imp 7 s with pc := vectorWord 0xFFFE#16 s, s := s.cpu.s - 3#8, p := t.cpu.p } ∧
      flag .i t = true ∧ OnlyFlags [.i] t s ∧
      peek (slot s.cpu.s) t ++ peek (slot (s.cpu.s - 1#8)) t = s.cpu.pc + 1#16 ∧
      peek (slot (s.cpu.s - 2#8)) t = s.cpu.p ||| 0x30#8 ∧
      StackStored [s.cpu.s, s.cpu.s - 1#8, s.cpu.s - 2#8] t s

/-- RTI (R259): P from the stack with B clear and U set, then PC from the stack, no increment. -/
def Obligations.ReturnFromInterrupt : Prop :=
  ∀ s : State,
    Instr.opcode .rti = 0x40#8 ∧ ∃ t, exec .rti s = .next t ∧
      t.cpu =
        { afterRead .imp 6 s with
          p := (peek (slot (s.cpu.s + 1#8)) s &&& 0xCF#8) ||| 0x20#8
          pc := stackWord (s.cpu.s + 2#8) s
          s := s.cpu.s + 3#8 } ∧
      NothingStored t s

/-! ### Loads, stores, transfers, stack -/

/-- LDA, LDX, LDY (R270, R271, R272). -/
def Obligations.LoadRegisters : Prop :=
  ∀ (o : Operand) (i : Instr) (op : Byte) (n : Nat) (s : State),
    let m := (operandRead o s).1
    let c := afterRead o (n + bit (crossesPage o s)) s
    (ldaForm o = some (i, op, n) → i.opcode = op ∧ ∃ t, exec i s = .next t ∧ t.cpu = { c with a := m, p := t.cpu.p } ∧
      ZeroNegativeOf m t ∧ OnlyFlags [.z, .n] t s ∧ SameDevices t (operandRead o s).2 ∧ MemoryKept t s) ∧
    (ldxForm o = some (i, op, n) → i.opcode = op ∧ ∃ t, exec i s = .next t ∧ t.cpu = { c with x := m, p := t.cpu.p } ∧
      ZeroNegativeOf m t ∧ OnlyFlags [.z, .n] t s ∧ SameDevices t (operandRead o s).2 ∧ MemoryKept t s) ∧
    (ldyForm o = some (i, op, n) → i.opcode = op ∧ ∃ t, exec i s = .next t ∧ t.cpu = { c with y := m, p := t.cpu.p } ∧
      ZeroNegativeOf m t ∧ OnlyFlags [.z, .n] t s ∧ SameDevices t (operandRead o s).2 ∧ MemoryKept t s)

/-- The law of a store: one write of the register, no flag, a fixed cycle count, and no read of the address:
the spec's D48 (log entry 13), no dummy read. -/
def Sys2Proof.Claim.StoreLaw (form : Operand → Option (Instr × Byte × Nat)) (reg : Cpu → Byte) : Prop :=
  ∀ (o : Operand) (i : Instr) (op : Byte) (n : Nat) (s : State), form o = some (i, op, n) →
    i.opcode = op ∧ ∃ t, exec i s = .next t ∧ t.cpu = { afterAddress o n s with p := t.cpu.p } ∧ OnlyFlags [] t s ∧
      SameDevices t (memWrite (effectiveAddress o s) (reg s.cpu) s) ∧
      StoredByte (effectiveAddress o s) (reg s.cpu) t s

/-- STA, STX, STY (R273, R274, R275). That a store makes no dummy read is the spec's D48 (log entry 13); that STA's
count stays fixed on a page crossing the spec marks derived in R273 itself. -/
def Obligations.StoreRegisters : Prop :=
  StoreLaw staForm Cpu.a ∧ StoreLaw stxForm Cpu.x ∧ StoreLaw styForm Cpu.y

/-- TAX, TAY, TSX, TXA, TXS, TYA (R276 to R281); TXS alone writes no flag. -/
def Obligations.RegisterTransfers : Prop :=
  ∀ s : State,
    (Instr.opcode .tax = 0xAA#8 ∧ ∃ t, exec .tax s = .next t ∧
      t.cpu = { afterRead .imp 2 s with x := s.cpu.a, p := t.cpu.p } ∧
      ZeroNegativeOf s.cpu.a t ∧ OnlyFlags [.z, .n] t s ∧ NothingStored t s) ∧
    (Instr.opcode .tay = 0xA8#8 ∧ ∃ t, exec .tay s = .next t ∧
      t.cpu = { afterRead .imp 2 s with y := s.cpu.a, p := t.cpu.p } ∧
      ZeroNegativeOf s.cpu.a t ∧ OnlyFlags [.z, .n] t s ∧ NothingStored t s) ∧
    (Instr.opcode .tsx = 0xBA#8 ∧ ∃ t, exec .tsx s = .next t ∧
      t.cpu = { afterRead .imp 2 s with x := s.cpu.s, p := t.cpu.p } ∧
      ZeroNegativeOf s.cpu.s t ∧ OnlyFlags [.z, .n] t s ∧ NothingStored t s) ∧
    (Instr.opcode .txa = 0x8A#8 ∧ ∃ t, exec .txa s = .next t ∧
      t.cpu = { afterRead .imp 2 s with a := s.cpu.x, p := t.cpu.p } ∧
      ZeroNegativeOf s.cpu.x t ∧ OnlyFlags [.z, .n] t s ∧ NothingStored t s) ∧
    (Instr.opcode .txs = 0x9A#8 ∧ ∃ t, exec .txs s = .next t ∧
      t.cpu = { afterRead .imp 2 s with s := s.cpu.x, p := t.cpu.p } ∧
      OnlyFlags [] t s ∧ NothingStored t s) ∧
    (Instr.opcode .tya = 0x98#8 ∧ ∃ t, exec .tya s = .next t ∧
      t.cpu = { afterRead .imp 2 s with a := s.cpu.y, p := t.cpu.p } ∧
      ZeroNegativeOf s.cpu.y t ∧ OnlyFlags [.z, .n] t s ∧ NothingStored t s)

/-- PHA and PHP (R282, R283): PHP's copy has B and U set, the live P is unchanged (but for the forced U). -/
def Obligations.StackPushes : Prop :=
  ∀ s : State,
    (Instr.opcode .pha = 0x48#8 ∧ ∃ t, exec .pha s = .next t ∧
      t.cpu = { afterRead .imp 3 s with s := s.cpu.s - 1#8, p := t.cpu.p } ∧
      peek (slot s.cpu.s) t = s.cpu.a ∧ OnlyFlags [] t s ∧ StackStored [s.cpu.s] t s) ∧
    (Instr.opcode .php = 0x08#8 ∧ ∃ t, exec .php s = .next t ∧
      t.cpu = { afterRead .imp 3 s with s := s.cpu.s - 1#8, p := t.cpu.p } ∧
      peek (slot s.cpu.s) t = s.cpu.p ||| 0x30#8 ∧ OnlyFlags [] t s ∧ StackStored [s.cpu.s] t s)

/-- PLA and PLP (R284, R285): PLP takes every bit of the pulled byte but U, which is 1. -/
def Obligations.StackPulls : Prop :=
  ∀ s : State,
    let m := peek (slot (s.cpu.s + 1#8)) s
    (Instr.opcode .pla = 0x68#8 ∧ ∃ t, exec .pla s = .next t ∧
      t.cpu = { afterRead .imp 4 s with a := m, s := s.cpu.s + 1#8, p := t.cpu.p } ∧
      ZeroNegativeOf m t ∧ OnlyFlags [.z, .n] t s ∧ NothingStored t s) ∧
    (Instr.opcode .plp = 0x28#8 ∧ ∃ t, exec .plp s = .next t ∧
      t.cpu = { afterRead .imp 4 s with s := s.cpu.s + 1#8, p := m ||| 0x20#8 } ∧ NothingStored t s)

/-! ### Flags, NOPs, fillers -/

/-- The flag instructions with the flag each writes and its value (R300 to R306). -/
def Sys2Proof.Claim.flagInstructions : List (Instr × Byte × Flag × Bool) :=
  [(.clc, 0x18#8, .c, false), (.cld, 0xD8#8, .d, false), (.cli, 0x58#8, .i, false), (.clv, 0xB8#8, .v, false), (.sec, 0x38#8, .c, true),
    (.sed, 0xF8#8, .d, true), (.sei, 0x78#8, .i, true)]

/-- CLC, CLD, CLI, CLV, SEC, SED, SEI: one flag and no other. -/
def Obligations.FlagSetAndClear : Prop :=
  ∀ (i : Instr) (op : Byte) (f : Flag) (value : Bool) (s : State), (i, op, f, value) ∈ flagInstructions →
    i.opcode = op ∧ ∃ t, exec i s = .next t ∧ t.cpu = { afterRead .imp 2 s with p := t.cpu.p } ∧
      flag f t = value ∧ OnlyFlags [f] t s ∧ NothingStored t s

/-- The 28 NOPs with their base cycles: 0xEA (R308) and the 27 unofficial ones (R309). -/
def Sys2Proof.Claim.nops (o : Operand) : List (Instr × Nat) :=
  match o with
  | .imp =>
    [
      (.nopImp1A, 2), (.nopImp3A, 2), (.nopImp5A, 2), (.nopImp7A, 2), (.nopImpDA, 2), (.nop, 2), (.nopImpFA, 2)
    ]
  | .imm b =>
    [
      (.nopImm80 b, 2), (.nopImm82 b, 2), (.nopImm89 b, 2), (.nopImmC2 b, 2), (.nopImmE2 b, 2)
    ]
  | .zp0 z => [(.nopZp004 z, 3), (.nopZp044 z, 3), (.nopZp064 z, 3)]
  | .zpx z =>
    [
      (.nopZpx14 z, 4), (.nopZpx34 z, 4), (.nopZpx54 z, 4), (.nopZpx74 z, 4), (.nopZpxD4 z, 4), (.nopZpxF4 z, 4)
    ]
  | .abs a => [(.nopAbs0C a, 4)]
  | .abx a =>
    [
      (.nopAbx1C a, 4), (.nopAbx3C a, 4), (.nopAbx5C a, 4), (.nopAbx7C a, 4), (.nopAbxDC a, 4), (.nopAbxFC a, 4)
    ]
  | .zpy _ | .rel _ | .aby _ | .ind _ | .izx _ | .izy _ => []

/-- Every NOP forms its address, reads no data and changes nothing but the latches and the countdown; the six ABX forms take one
cycle more on a page crossing. -/
def Obligations.NopsChangeNothing : Prop :=
  ∀ (o : Operand) (i : Instr) (n : Nat) (s : State), (i, n) ∈ nops o →
    ∃ t, exec i s = .next t ∧
      t.cpu =
        { afterAddress o (n + bit (crossesPage o s)) s with
          fetched := if o = .imp then s.cpu.a else s.cpu.fetched, p := t.cpu.p } ∧
      OnlyFlags [] t s ∧ NothingStored t s

/-- The filler opcodes 0x02 to 0x5F with their base cycles (R124, R310). -/
def Sys2Proof.Claim.fillersLow : List (Instr × Nat) := [
  (.filler02, 2), (.filler03, 8), (.filler07, 5), (.filler0B, 2), (.filler0F, 6), (.filler12, 2), (.filler13, 8),
  (.filler17, 6), (.filler1B, 7), (.filler1F, 7), (.filler22, 2), (.filler23, 8), (.filler27, 5), (.filler2B, 2),
  (.filler2F, 6), (.filler32, 2), (.filler33, 8), (.filler37, 6), (.filler3B, 7), (.filler3F, 7), (.filler42, 2),
  (.filler43, 8), (.filler47, 5), (.filler4B, 2), (.filler4F, 6), (.filler52, 2), (.filler53, 8), (.filler57, 6),
  (.filler5B, 7), (.filler5F, 7)]

/-- The filler opcodes 0x62 to 0xAF with their base cycles (R124, R310). -/
def Sys2Proof.Claim.fillersMiddle : List (Instr × Nat) := [
  (.filler62, 2), (.filler63, 8), (.filler67, 5), (.filler6B, 2), (.filler6F, 6), (.filler72, 2), (.filler73, 8),
  (.filler77, 6), (.filler7B, 7), (.filler7F, 7), (.filler83, 6), (.filler87, 3), (.filler8B, 2), (.filler8F, 4),
  (.filler92, 2), (.filler93, 6), (.filler97, 4), (.filler9B, 5), (.filler9C, 5), (.filler9E, 5), (.filler9F, 5),
  (.fillerA3, 6), (.fillerA7, 3), (.fillerAB, 2), (.fillerAF, 4)]

/-- The filler opcodes 0xB2 to 0xFF with their base cycles (R124, R310). -/
def Sys2Proof.Claim.fillersHigh : List (Instr × Nat) := [
  (.fillerB2, 2), (.fillerB3, 5), (.fillerB7, 4), (.fillerBB, 4), (.fillerBF, 4), (.fillerC3, 8), (.fillerC7, 5),
  (.fillerCB, 2), (.fillerCF, 6), (.fillerD2, 2), (.fillerD3, 8), (.fillerD7, 6), (.fillerDB, 7), (.fillerDF, 7),
  (.fillerE3, 8), (.fillerE7, 5), (.fillerEB, 2), (.fillerEF, 6), (.fillerF2, 2), (.fillerF3, 8), (.fillerF7, 6),
  (.fillerFB, 7), (.fillerFF, 7)]

/-- The 78 filler opcodes with their base cycles (R124, R310). -/
def Sys2Proof.Claim.fillers : List (Instr × Nat) :=
  fillersLow ++ fillersMiddle ++ fillersHigh

/-- A filler executes as a one-byte instruction that does nothing under P_ILLEGAL_OPCODE = FILLER, and is refused under REFUSE (R310,
R311; the spec's D8, log entry 13). -/
def Obligations.FillerOpcodes : Prop :=
  ∀ (i : Instr) (n : Nat) (s : State), (i, n) ∈ fillers →
    (s.config.illegalOpcode = .filler → ∃ t, exec i s = .next t ∧
      t.cpu = { afterRead .imp n s with p := t.cpu.p } ∧ OnlyFlags [] t s ∧ NothingStored t s) ∧
    (s.config.illegalOpcode = .refuse → exec i s = .refused .illegalOpcode)

/-! ### All instructions at once -/

/-- The cycles a branch with offset `r` on flag `f` adds (R240): one if taken, one more if taken to another page. -/
def Sys2Proof.Claim.branchCost (f : Flag) (value : Bool) (r : Int) (s : State) : Nat :=
  let target : Word := BitVec.ofInt 16 (s.cpu.pc.toNat + r)
  if flag f s = value then 1 + bit (decide (page target ≠ page s.cpu.pc)) else 0

/-- The cycles an instruction adds itself: only the eight branches do (R241 to R248). -/
def Sys2Proof.Claim.branchCycles (i : Instr) (s : State) : Nat :=
  match i with
  | .bcc r => branchCost .c false r s
  | .bcs r => branchCost .c true r s
  | .beq r => branchCost .z true r s
  | .bmi r => branchCost .n true r s
  | .bne r => branchCost .z false r s
  | .bpl r => branchCost .n false r s
  | .bvc r => branchCost .v false r s
  | .bvs r => branchCost .v true r s
  | _ => 0

/-- The 29 opcodes that can take a cycle more on a page crossing (R125). -/
def Sys2Proof.Claim.pageExtraOpcodes : List Byte :=
  [0x1D#8, 0x19#8, 0x11#8, 0x3D#8, 0x39#8, 0x31#8, 0x5D#8, 0x59#8, 0x51#8, 0x7D#8, 0x79#8, 0x71#8, 0xBD#8, 0xB9#8,
    0xB1#8, 0xDD#8, 0xD9#8, 0xD1#8, 0xFD#8, 0xF9#8, 0xF1#8, 0xBC#8, 0xBE#8, 0x1C#8, 0x3C#8, 0x5C#8, 0x7C#8, 0xDC#8,
    0xFC#8]

/-- Every one of the 256 instructions completes, and its countdown is its row's base cycles, plus one exactly for the 29 opcodes of
R125 when indexing crosses a page, plus a taken branch's own (R123, R125, R150, R152, R240). -/
def Obligations.InstructionCycles : Prop :=
  ∀ (i : Instr) (s : State), s.config.illegalOpcode = .filler →
    ∃ t, exec i s = .next t ∧
      t.cpu.cycles =
        (rowOf i.opcode).cycles + bit (decide (i.opcode ∈ pageExtraOpcodes) && crossesPage i.operand s) +
          branchCycles i s

/-- The mnemonic of an instruction's row. -/
def Sys2Proof.Claim.mnemonic (i : Instr) : String := (rowOf i.opcode).mnemonic

/-- A shift or rotate of the accumulator. -/
def Sys2Proof.Claim.shiftsAccumulator (i : Instr) : Bool :=
  decide (mnemonic i ∈ ["ASL", "LSR", "ROL", "ROR"]) && decide (i.operand = .imp)

/-- The mnemonics that write A (R20, by the rules of spec/41 and spec/44); a shift in mode IMP does too. -/
def Sys2Proof.Claim.writersOfA : List String := ["ADC", "SBC", "AND", "ORA", "EOR", "LDA", "PLA", "TXA", "TYA"]

/-- The mnemonics that write X. -/
def Sys2Proof.Claim.writersOfX : List String := ["LDX", "TAX", "TSX", "INX", "DEX"]

/-- The mnemonics that write Y. -/
def Sys2Proof.Claim.writersOfY : List String := ["LDY", "TAY", "INY", "DEY"]

/-- The mnemonics that move or write S. -/
def Sys2Proof.Claim.writersOfS : List String := ["TXS", "PHA", "PHP", "PLA", "PLP", "JSR", "RTS", "BRK", "RTI"]

/-- The mnemonics whose operation writes PC (R151). -/
def Sys2Proof.Claim.writersOfPc : List String :=
  ["BCC", "BCS", "BEQ", "BMI", "BNE", "BPL", "BVC", "BVS", "JMP", "JSR", "RTS", "BRK", "RTI"]

/-- The mnemonics that write each flag; U is forced by every instruction (R23 to R26 and the "Flags" of spec/41 to spec/45). -/
def Sys2Proof.Claim.writersOfFlag (f : Flag) : List String :=
  match f with
  | .c =>
    ["ADC", "SBC", "CMP", "CPX", "CPY", "ASL", "LSR", "ROL", "ROR", "CLC", "SEC", "PLP", "RTI"]
  | .z | .n =>
    ["ADC", "SBC", "AND", "ORA", "EOR", "BIT", "CMP", "CPX", "CPY", "INC", "DEC", "INX", "INY", "DEX", "DEY", "ASL",
      "LSR", "ROL", "ROR", "LDA", "LDX", "LDY", "TAX", "TAY", "TSX", "TXA", "TYA", "PLA", "PLP", "RTI"]
  | .i => ["CLI", "SEI", "BRK", "PLP", "RTI"]
  | .d => ["CLD", "SED", "PLP", "RTI"]
  | .b => ["PLP", "RTI"]
  | .u => []
  | .v => ["ADC", "SBC", "BIT", "CLV", "PLP", "RTI"]

/-- The mnemonics that store to memory; a shift does in its memory forms. -/
def Sys2Proof.Claim.storers : List String :=
  ["STA", "STX", "STY", "INC", "DEC", "ASL", "LSR", "ROL", "ROR", "PHA", "PHP", "JSR", "BRK"]

/-- The whole-machine rule of R20, R23 to R26 and R151: no instruction of the 256 writes a register, a flag, PC or a memory unless
its mnemonic names it; every instruction leaves U = 1. -/
def Obligations.OnlyNamedInstructionsWrite : Prop :=
  ∀ (i : Instr) (s t : State), exec i s = .next t →
    (mnemonic i ∉ writersOfA → shiftsAccumulator i = false → t.cpu.a = s.cpu.a) ∧
      (mnemonic i ∉ writersOfX → t.cpu.x = s.cpu.x) ∧ (mnemonic i ∉ writersOfY → t.cpu.y = s.cpu.y) ∧
      (mnemonic i ∉ writersOfS → t.cpu.s = s.cpu.s) ∧ (mnemonic i ∉ writersOfPc → t.cpu.pc = s.cpu.pc) ∧
      (∀ f, f ≠ .u → mnemonic i ∉ writersOfFlag f → flag f t = flag f s) ∧ flag .u t = true ∧
      (mnemonic i ∉ storers ∨ shiftsAccumulator i = true → MemoryKept t s) ∧
      t.cpu.opcode = s.cpu.opcode ∧ t.config = s.config

/-- A state with another value of the decimal flag. -/
def Sys2Proof.Claim.withDecimal (d : Bool) (s : State) : State := s.setP (setFlag .d d s.cpu.p)

/-- `P.D` is read by nothing (R25): for every instruction that neither pushes P (PHP, BRK) nor writes D (CLD, SED, PLP, RTI), running
it with another D gives the same state with that D. ADC and SBC are among them. -/
def Obligations.DecimalFlagIsReadByNothing : Prop :=
  ∀ (i : Instr) (d : Bool) (s : State), mnemonic i ∉ ["PHP", "BRK", "CLD", "SED", "PLP", "RTI"] →
    exec i (withDecimal d s) = Result.andThen (exec i s) (withDecimal d)

/-! ### The step -/

/-- The state in which an instruction of `n` bytes runs, once its opcode byte `op` and its operand bytes are fetched from memory:
the latch, the forced U and PC past the bytes, nothing else (R150, R151). -/
def Sys2Proof.Claim.fetched (op : Byte) (n : Nat) (s : State) : State :=
  { s with cpu := { s.cpu with opcode := op, p := s.cpu.p ||| 0x20#8, pc := s.cpu.pc + BitVec.ofNat 16 n } }

/-- The tick is one in which the CPU is clocked: a cartridge is inserted, the tick is a CPU slot, no DMA transfer is in progress
(R451, R452). -/
def Sys2Proof.Claim.cpuIsClocked (s : State) : Prop :=
  s.cart.isSome = true ∧ s.bus.tick % 3 = 0 ∧ s.bus.dmaTransfer = false

/-- A step runs the decoded instruction (R150, R451): when the CPU is clocked with nothing left to count and the bytes at PC, all
in memory, decode to `i`, the step is the PPU's step, then `exec i` after the fetch, then one count, then the end of the tick
(a pending NMI taken, the tick counted). -/
def Obligations.StepRunsDecodedInstruction : Prop :=
  ∀ (i : Instr) (s : State) (rest : List Byte), cpuIsClocked s → s.cpu.cycles = 0 →
    (∀ k, k < i.length → isMemory (s.cpu.pc + BitVec.ofNat 16 k) = true) →
    decode [peek s.cpu.pc s, peek (s.cpu.pc + 1#16) s, peek (s.cpu.pc + 2#16) s] = .ok (i, rest) →
    step s =
      Result.andThen (exec i (fetched i.opcode i.length (ppuClock s)))
        (fun t => endTick (t.setCycles (t.cpu.cycles - 1)))

/-- `n` bytes read at `a`, `a + 1`, … in order, each with its side effects, and the state after. -/
def Sys2Proof.Claim.readBytes : Nat → Word → State → List Byte × State
  | 0, _, s => ([], s)
  | n + 1, a, s =>
    let b := memRead a s
    let r := readBytes n (a + 1#16) b.2
    (b.1 :: r.1, r.2)

/-- The fetch at any PC, device registers included (R150, R151): an instruction whose opcode is the byte read at PC; PC passes
exactly its length, wrapping; its bytes are read in order and nothing else is, but for the operand byte of an unofficial NOP in
mode IMM, which is not read (R156, R168; log entry 8). -/
def Obligations.FetchReadsInstructionBytes : Prop :=
  ∀ s : State,
    let f := fetchInstr s
    let n := if mnemonic f.1 = "NOP" ∧ f.1.operand.mode = .imm then 1 else f.1.length
    let r := readBytes n s.cpu.pc s
    f.1.wf = true ∧ f.1.opcode = (memRead s.cpu.pc s).1 ∧ (encode f.1).take n = r.1 ∧
      f.2.cpu = (fetched f.1.opcode f.1.length s).cpu ∧ SameDevices f.2 r.2

/-- Between instruction starts nothing but the PPU and the counters moves (R150, R451): a CPU slot of a countdown takes one off
`cycles`, another tick leaves the CPU alone, and the tick is counted. The NMI tick and a DMA transfer have statements of their own. -/
def Obligations.TicksBetweenInstructions : Prop :=
  ∀ s : State, s.cart.isSome = true → s.bus.dmaTransfer = false → (ppuClock s).ppu.nmi = false →
    (s.bus.tick % 3 = 0 → s.cpu.cycles ≠ 0 →
      step s = .next
        { ppuClock s with
          cpu := { s.cpu with cycles := s.cpu.cycles - 1 }, bus := { s.bus with tick := s.bus.tick + 1 } }) ∧
    (s.bus.tick % 3 ≠ 0 →
      step s = .next { ppuClock s with cpu := s.cpu, bus := { s.bus with tick := s.bus.tick + 1 } })

/-- The next tick starts the instruction at `a`: the CPU is clocked, nothing is left to count, PC is `a` (R15, R150). -/
def Sys2Proof.Claim.startsAt (a : Word) (s : State) : Prop := cpuIsClocked s ∧ s.cpu.cycles = 0 ∧ s.cpu.pc = a

/-- When a tick is defined (R320, R321, R451, R474): it is refused with `noCartridge` exactly when no cartridge is inserted; under
P_ILLEGAL_OPCODE = FILLER every tick with a cartridge has a next state; under REFUSE the only other outcome is `illegalOpcode`.
And where a launch's run ends (R474, the spec's D53, log entries 13 and 17): from the state `s` its setup leaves, after the ticks up to
the first instruction start at its `end_pc`, before that instruction runs, or after its tick budget, whichever comes first. -/
def Obligations.EveryTickIsDefined : Prop :=
  ∀ s : State,
    (s.cart = none ↔ step s = .refused .noCartridge) ∧
      (s.cart ≠ none → s.config.illegalOpcode = .filler → ∃ t, step s = .next t) ∧
      (s.cart ≠ none → (∃ t, step s = .next t) ∨ step s = .refused .illegalOpcode) ∧
      ∀ (l : Launch) (t : State), hostRun l.setup (powerOn l.params l.memories) = .next s →
        (launchRun l = .next t ↔
          ∃ n, n ≤ l.tickBudget ∧ Host.Core.run Sys2Proof.core n s = .next t ∧
            (n = l.tickBudget ∨ startsAt l.endPc t) ∧
            ∀ k u, k < n → Host.Core.run Sys2Proof.core k s = .next u → ¬ startsAt l.endPc u)

/-! ### Invariants -/

/-- The invariant of Safety.lean is kept by every tick: canonical memories inside their sizes, the raster inside the frame, the status
register's unused bits clear, no NMI left pending, the DMA engine at rest between transfers, the CPU held while one is in progress,
U = 1, at most 8 cycles to count. -/
def Obligations.StepKeepsInvariant : Prop := ∀ s t : State, s.inv = true → step s = .next t → t.inv = true

/-- The state after reset meets the invariant. -/
def Obligations.ResetStateMeetsInvariant : Prop := State.reset.inv = true

/-- Every operation of the host keeps the memories canonical and the cartridge sound, whatever it loads, writes or resets (R470). -/
def Obligations.HostOperationsKeepMemories : Prop :=
  ∀ (op : HostOp) (s t : State), s.memoriesOk = true → hostOp op s = .next t → t.memoriesOk = true

/-- The cartridge without its two buffers. -/
def Sys2Proof.Claim.header (c : Cartridge) : Cartridge := { c with prg := [], chr := [] }

/-- No tick changes the parameters, inserts or removes a cartridge, or changes anything of it but the buffers; CHR ROM does not
change, and PRG does not under P_PRG_WRITE = IGNORE (R32, R46, R83, R88). -/
def Obligations.CartridgeIsConstant : Prop :=
  ∀ (s t : State) (c : Cartridge), s.cart = some c → step s = .next t →
    t.config = s.config ∧ ∃ d, t.cart = some d ∧ header d = header c ∧ (c.nChr ≠ 0 → d.chr = c.chr) ∧
      (s.config.prgWrite = .ignore → d.prg = c.prg)

/-- Where PRG begins in an image: after the header and, with `flags6[2]` set, the trainer (R84; the spec's D33). -/
def Sys2Proof.Claim.prgStart (image : List Byte) : Nat :=
  16 + (if (image.getD 6 0x00#8).toNat / 4 % 2 = 1 then 512 else 0)

/-- The bank counts an image's header declares (R84). -/
def Sys2Proof.Claim.prgBanks (image : List Byte) : Nat := (image.getD 4 0x00#8).toNat

/-- The CHR bank count an image's header declares (R84). -/
def Sys2Proof.Claim.chrBanks (image : List Byte) : Nat := (image.getD 5 0x00#8).toNat

/-- The mapper number an image's header declares (R84; the spec's D33). -/
def Sys2Proof.Claim.mapperNumber (image : List Byte) : Nat :=
  (image.getD 7 0x00#8).toNat / 16 * 16 + (image.getD 6 0x00#8).toNat / 16

/-- The length an image's header declares (R84). -/
def Sys2Proof.Claim.declaredLength (image : List Byte) : Nat :=
  prgStart image + prgBanks image * 16384 + chrBanks image * 8192

/-- The first four bytes of an image are "NES" and 0x1A (R85). -/
def Sys2Proof.Claim.hasMagic (image : List Byte) : Prop := image.take 4 = [0x4E#8, 0x45#8, 0x53#8, 0x1A#8]

/-- When an image is refused with each load error (R85; the spec's D31). Where several faults of R85 are present, the header's length
comes first, then the magic, the mapper, the bank count and the declared length: that order is the model's (log entry 9). -/
def Sys2Proof.Claim.refusedWith (image : List Byte) (e : LoadError) : Prop :=
  match e with
  | .badMagic => 16 ≤ image.length ∧ ¬ hasMagic image
  | .unsupportedMapper => 16 ≤ image.length ∧ hasMagic image ∧ mapperNumber image ≠ 0
  | .noPrgBank => 16 ≤ image.length ∧ hasMagic image ∧ mapperNumber image = 0 ∧ prgBanks image = 0
  | .truncated =>
    image.length < 16 ∨
      (hasMagic image ∧ mapperNumber image = 0 ∧ prgBanks image ≠ 0 ∧ image.length < declaredLength image)

/-- Construction from an image (R84, R85, R470): it loads exactly when it has the magic, mapper 0, at least one PRG bank and its declared
length; else it is refused with the error of its fault, and its insertion is a refusal, which leaves no state. A loaded cartridge has
the header's counts and mirroring (the spec's D31 and D33), the image's PRG and CHR bytes and zeroed CHR RAM, and its insertion
changes nothing else. -/
def Obligations.CartridgeFromImage : Prop :=
  ∀ (image : List Byte) (s : State),
    ((∃ c, loadImage image = .ok c) ↔
      hasMagic image ∧ mapperNumber image = 0 ∧ prgBanks image ≠ 0 ∧ declaredLength image ≤ image.length) ∧
    (∀ e, loadImage image = .error e ↔ refusedWith image e) ∧
    (∀ e, loadImage image = .error e → hostOp (.insertCartridge image) s = .refused .invalidImage) ∧
    ∀ c, loadImage image = .ok c →
      hostOp (.insertCartridge image) s = .next { s with cart := some c } ∧
        c.nPrg = prgBanks image ∧ c.nChr = chrBanks image ∧ c.mapperId = 0x00#8 ∧
        c.mirror = (if (image.getD 6 0x00#8).toNat % 2 = 1 then .vertical else .horizontal) ∧
        (∀ k, k < c.nPrg * 16384 → Memory.read c.prg k = image.getD (prgStart image + k) 0x00#8) ∧
        (∀ k, k < c.nChr * 8192 →
          Memory.read c.chr k = image.getD (prgStart image + c.nPrg * 16384 + k) 0x00#8) ∧
        (c.nChr = 0 → ∀ k, Memory.read c.chr k = 0x00#8) ∧ c.ok = true

/-! ### Reset -/

/-- The system reset (R480, R483): every register at its value, PC from the reset vector, every memory, the picture, the cartridge and
the controller latches kept; refused without a cartridge. The PPU, bus and latch values are the spec's D2, D45, D51 (log entry 13). -/
def Obligations.SystemResetValues : Prop :=
  ∀ s : State,
    (s.cart = none → systemReset s = .refused .noCartridge) ∧
    (s.cart ≠ none → ∃ t, systemReset s = .next t ∧
      t.cpu =
        { a := 0x00#8, x := 0x00#8, y := 0x00#8, s := 0xFD#8, p := 0x20#8, pc := vectorWord 0xFFFC#16 s, cycles := 8,
          opcode := s.cpu.opcode, addrAbs := 0x0000#16, addrRel := 0x0000#16, fetched := 0x00#8 } ∧
      t.bus =
        { s.bus with
          tick := 0, dmaPage := 0x00#8, dmaAddr := 0x00#8, dmaData := 0x00#8, dmaDummy := true, dmaTransfer := false } ∧
      t.ppu =
        { s.ppu with
          ctrl := 0x00#8, mask := 0x00#8, status := 0x00#8, v := 0x0000#15, t := 0x0000#15, fineX := 0#3, w := false,
          dataBuffer := 0x00#8, oamAddr := 0x00#8, bgNextTileId := 0x00#8, bgNextTileAttrib := 0x00#8,
          bgNextTileLsb := 0x00#8, bgNextTileMsb := 0x00#8, bgShifterPatternLo := 0x0000#16,
          bgShifterPatternHi := 0x0000#16, bgShifterAttribLo := 0x0000#16, bgShifterAttribHi := 0x0000#16,
          scanline := -1, cycle := 0, frameComplete := false, nmi := false, oddFrame := false } ∧
      t.cart = s.cart ∧ t.config = s.config)

/-- The model's reset state is a fixed point of the spec's reset (log entry 5 names its cartridge, a DESIGN CHOICE). -/
def Obligations.ResetStateIsReset : Prop := systemReset State.reset = .next State.reset

/-! ### The CPU bus -/

/-- Work RAM and its mirrors (R74): a write through an address of 0x0000-0x1FFF is read back through every address with the same low
11 bits, no other address of memory changes, and nothing but RAM does; a read there has no side effect. -/
def Obligations.RamAndItsMirrors : Prop :=
  ∀ (s : State) (a b : Word) (v : Byte), a.toNat ≤ 0x1FFF → b.toNat ≤ 0x1FFF →
    (memRead b s).2 = s ∧
      (memRead b (memWrite a v s)).1 = (if a.toNat % 2048 = b.toNat % 2048 then v else (memRead b s).1) ∧
      memWrite a v s = { s with bus := { s.bus with ram := (memWrite a v s).bus.ram } }

/-- Unmapped addresses (R73): 0x4000-0x4013, 0x4015, 0x4018-0x7FFF read 0x00 and drop writes, and 0x4014 reads 0x00, with no other
effect. -/
def Obligations.UnmappedAddresses : Prop :=
  ∀ (s : State) (a : Word) (v : Byte),
    (0x4000 ≤ a.toNat → a.toNat ≤ 0x7FFF → a.toNat ≠ 0x4016 → a.toNat ≠ 0x4017 → memRead a s = (0x00#8, s)) ∧
    (0x4000 ≤ a.toNat → a.toNat ≤ 0x7FFF → a.toNat ≠ 0x4014 → a.toNat ≠ 0x4016 → a.toNat ≠ 0x4017 →
      memWrite a v s = s)

/-- A peek gives the byte a read would give (R76, R378: the spec's D47), and a read changes nothing unless it is of PPU port 2 or 7 or
of a controller port (R98). -/
def Obligations.PeekAndReadAgree : Prop :=
  ∀ (s : State) (a : Word),
    peek a s = (memRead a s).1 ∧
      (¬ (0x2000 ≤ a.toNat ∧ a.toNat ≤ 0x3FFF ∧ (a.toNat % 8 = 2 ∨ a.toNat % 8 = 7)) → a.toNat ≠ 0x4016 →
        a.toNat ≠ 0x4017 → (memRead a s).2 = s)

/-- PRG space (R82, R83): with one bank an address of 0x8000-0xFFFF reaches PRG byte `a mod 16384`, with more `a mod 32768`; reads
have no side effect; a write changes that byte under WRITE_THROUGH and nothing under IGNORE. -/
def Obligations.PrgSpace : Prop :=
  ∀ (s : State) (c : Cartridge) (a : Word) (v : Byte), s.cart = some c → 1 ≤ c.nPrg → 0x8000 ≤ a.toNat →
    let o := a.toNat % (if c.nPrg = 1 then 16384 else 32768)
    memRead a s = (Memory.read c.prg o, s) ∧
      (s.config.prgWrite = .writeThrough →
        memWrite a v s = { s with cart := some { c with prg := Memory.write c.prg o v } }) ∧
      (s.config.prgWrite = .ignore → memWrite a v s = s)

/-- `n` reads of one address, in order: the bytes and the state after. -/
def Sys2Proof.Claim.readsOf (a : Word) : Nat → State → List Byte × State
  | 0, s => ([], s)
  | n + 1, s =>
    let b := memRead a s
    let r := readsOf a n b.2
    (b.1 :: r.1, r.2)

/-- The controller ports (R77, R78, R472; the spec's D29): after a write of any value to 0x4016 or 0x4017 the next eight reads of that
port give the bits of that controller's snapshot, bit 7 first, as 0x00 or 0x01; the ninth and later give 0x00; the other port's
latch is untouched. -/
def Obligations.ControllerShiftsOutSnapshot : Prop :=
  ∀ (s : State) (v : Byte) (k : Nat),
    (let r := readsOf 0x4016#16 (8 + k) (memWrite 0x4016#16 v s)
     r.1 = (List.range 8).map (fun j => if s.bus.controllerInput0.getLsbD (7 - j) then 0x01#8 else 0x00#8) ++
        List.replicate k 0x00#8 ∧
      r.2 = { s with bus := { s.bus with controllerState0 := 0x00#8 } }) ∧
    (let r := readsOf 0x4017#16 (8 + k) (memWrite 0x4017#16 v s)
     r.1 = (List.range 8).map (fun j => if s.bus.controllerInput1.getLsbD (7 - j) then 0x01#8 else 0x00#8) ++
        List.replicate k 0x00#8 ∧
      r.2 = { s with bus := { s.bus with controllerState1 := 0x00#8 } })

/-! ### Interrupts -/

/-- IRQ and NMI (R330, R331, R332; the spec's D4 and D5): NMI is unconditional with vector 0xFFFA and 8 cycles; IRQ does nothing while
I = 1 and otherwise enters through 0xFFFE with 7 cycles. -/
def Obligations.InterruptEntry : Prop :=
  ∀ s : State,
    Entered 0xFFFA#16 8 (nmi s) s ∧ (flag .i s = true → irq s = s) ∧
      (flag .i s = false → Entered 0xFFFE#16 7 (irq s) s)

/-- The vblank NMI is taken in the tick that raises it (R323, R416, R451): at (241, 1) with `enable_nmi` set every tick that has a next
state ends at the first byte of the NMI handler with 8 cycles to count, I set, B clear, the new P on top of the stack and no NMI
pending, whatever the CPU or the DMA engine did in that tick. -/
def Obligations.VblankNmiIsTakenAtOnce : Prop :=
  ∀ s t : State, s.ppu.scanline = 241 → s.ppu.cycle = 1 → s.ppu.enableNmi = true → step s = .next t →
    t.cpu.cycles = 8 ∧ t.cpu.pc = vectorWord 0xFFFA#16 t ∧ flag .i t = true ∧ flag .b t = false ∧
      peek (slot (t.cpu.s + 1#8)) t = t.cpu.p ∧ t.ppu.nmi = false ∧ t.bus.tick = s.bus.tick + 1

/-- RTI undoes an interrupt entry (R259, R334): from the stack that an NMI, or an accepted IRQ, left, it goes back to the interrupted PC
and stack pointer, with I still set. -/
def Obligations.RtiUndoesInterruptEntry : Prop :=
  ∀ s e : State, (let h := nmi s; e.cpu.s = h.cpu.s ∧ e.bus.ram = h.bus.ram) ∨
      (flag .i s = false ∧ (let h := irq s; e.cpu.s = h.cpu.s ∧ e.bus.ram = h.bus.ram)) →
    ∃ t, exec .rti e = .next t ∧ t.cpu.pc = s.cpu.pc ∧ t.cpu.s = s.cpu.s ∧ t.cpu.p = (s.cpu.p &&& 0xEF#8) ||| 0x24#8

/-! ### The PPU's registers -/

/-- An address of a PPU port, at any of its mirrors (R75). -/
def Sys2Proof.Claim.isPort (a : Word) (k : Nat) : Prop := 0x2000 ≤ a.toNat ∧ a.toNat ≤ 0x3FFF ∧ a.toNat % 8 = k

/-- PPUSTATUS (R364): the three flags and the buffer's low five bits; the vblank flag and the latch `w` are cleared, nothing else
changes. -/
def Obligations.StatusReadClearsVblank : Prop :=
  ∀ (s : State) (a : Word), isPort a 2 →
    (memRead a s).1.toNat = s.ppu.status.toNat / 32 * 32 + s.ppu.dataBuffer.toNat % 32 ∧
      (memRead a s).2 = { s with ppu := { s.ppu with status := s.ppu.status &&& 0x7F#8, w := false } }

/-- PPUSCROLL and PPUADDR (R370, R371, R372): the shared latch selects the half a write lands in; the fields of `t`, `fine_x` and `v`
in numbers; nothing else changes. -/
def Obligations.TwoWritePorts : Prop :=
  ∀ (s : State) (a : Word) (d : Byte),
    let p := s.ppu
    let t := p.t.toNat
    (isPort a 5 → p.w = false →
      memWrite a d s = { s with ppu :=
        { p with fineX := BitVec.ofNat 3 (d.toNat % 8), t := BitVec.ofNat 15 (t / 32 * 32 + d.toNat / 8), w := true } }) ∧
    (isPort a 5 → p.w = true →
      memWrite a d s = { s with ppu :=
        { p with
          t := BitVec.ofNat 15 (d.toNat % 8 * 4096 + t / 1024 % 4 * 1024 + d.toNat / 8 * 32 + t % 32), w := false } }) ∧
    (isPort a 6 → p.w = false →
      memWrite a d s = { s with ppu :=
        { p with t := BitVec.ofNat 15 (d.toNat % 64 * 256 + t % 256), w := true } }) ∧
    (isPort a 6 → p.w = true →
      memWrite a d s = { s with ppu :=
        { p with
          t := BitVec.ofNat 15 (t / 256 * 256 + d.toNat), v := BitVec.ofNat 15 (t / 256 * 256 + d.toNat), w := false } })

/-- `v` after a PPUDATA access: up by 1, or by 32 with bit 2 of `ctrl` set, wrapping at 2^15 (R375). -/
def Sys2Proof.Claim.vNext (p : Ppu) : Loopy :=
  BitVec.ofNat 15 (p.v.toNat + (if p.ctrl.toNat / 4 % 2 = 1 then 32 else 1))

/-- PPUDATA (R373, R374, R375; the spec's D14, D22, D40): a read returns the buffer, or in palette space the palette byte, and loads
the buffer from the PPU bus; a write goes to the PPU bus; both move `v`. -/
def Obligations.PpuDataAccess : Prop :=
  ∀ (s : State) (a : Word) (d : Byte), isPort a 7 →
    let target : PpuAddr := BitVec.ofNat 14 s.ppu.v.toNat
    memRead a s =
        (if 0x3F00 ≤ target.toNat then ppuRead target s else s.ppu.dataBuffer,
          { s with ppu := { s.ppu with dataBuffer := ppuRead target s, v := vNext s.ppu } }) ∧
      memWrite a d s = { ppuWrite target d s with ppu := { (ppuWrite target d s).ppu with v := vNext s.ppu } }

/-- The other ports (R363, R365 to R369; the spec's D12, D13): PPUCTRL also writes the nametable bits of `t`, PPUMASK, OAMADDR and OAMDATA
write their own register or byte, a write to PPUSTATUS is ignored; PPUCTRL, PPUMASK, OAMADDR, PPUSCROLL and PPUADDR read 0x00, OAMDATA
reads its byte, all without side effect. -/
def Obligations.SinglePorts : Prop :=
  ∀ (s : State) (a : Word) (d : Byte),
    let p := s.ppu
    (isPort a 0 → memWrite a d s = { s with ppu :=
      { p with ctrl := d, t := BitVec.ofNat 15 (p.t.toNat / 4096 * 4096 + d.toNat % 4 * 1024 + p.t.toNat % 1024) } }) ∧
    (isPort a 1 → memWrite a d s = { s with ppu := { p with mask := d } }) ∧
    (isPort a 2 → memWrite a d s = s) ∧
    (isPort a 3 → memWrite a d s = { s with ppu := { p with oamAddr := d } }) ∧
    (isPort a 4 → memRead a s = (Memory.read p.oam p.oamAddr.toNat, s) ∧
      memWrite a d s = { s with ppu := { p with oam := Memory.write p.oam p.oamAddr.toNat d } }) ∧
    (isPort a 0 ∨ isPort a 1 ∨ isPort a 3 ∨ isPort a 5 ∨ isPort a 6 → memRead a s = (0x00#8, s))

/-- The nametable bank of an address of 0x2000-0x3EFF, from its quadrant (R93). -/
def Sys2Proof.Claim.nametableBank (m : Mirror) (a : PpuAddr) : Nat :=
  match m with
  | .horizontal => a.toNat % 4096 / 2048
  | .vertical => a.toNat % 2048 / 1024
  | .oneScreenLo => 0
  | .oneScreenHi => 1

/-- The palette byte of an address of 0x3F00-0x3FFF, with its fold (R95). -/
def Sys2Proof.Claim.paletteByte (a : PpuAddr) : Nat :=
  if a.toNat % 32 / 16 = 1 ∧ a.toNat % 4 = 0 then a.toNat % 16 else a.toNat % 32

/-- Two PPU addresses that reach the same byte, with a cartridge inserted (R87 to R95). -/
def Sys2Proof.Claim.samePpuByte (c : Cartridge) (a b : PpuAddr) : Prop :=
  (a.toNat ≤ 0x1FFF ∧ a = b) ∨
    (0x2000 ≤ a.toNat ∧ a.toNat ≤ 0x3EFF ∧ 0x2000 ≤ b.toNat ∧ b.toNat ≤ 0x3EFF ∧
      nametableBank c.mirror a = nametableBank c.mirror b ∧ a.toNat % 1024 = b.toNat % 1024) ∨
    (0x3F00 ≤ a.toNat ∧ 0x3F00 ≤ b.toNat ∧ paletteByte a = paletteByte b)

/-- What a byte written to the PPU bus reads back as: palette bytes are masked, to 0x30 under grayscale (R95). -/
def Sys2Proof.Claim.ppuReadBack (a : PpuAddr) (d : Byte) (s : State) : Byte :=
  if 0x3F00 ≤ a.toNat then d &&& (if s.ppu.mask.toNat % 2 = 1 then 0x30#8 else 0x3F#8) else d

/-- The PPU bus, read after write (R87, R88, R90, R91, R93 to R95): a byte reads back through every address that reaches it and through
no other; CHR ROM does not take writes; a write changes no PPU register and nothing of the CPU or the bus. -/
def Obligations.PpuBusReadAfterWrite : Prop :=
  ∀ (s : State) (c : Cartridge) (a b : PpuAddr) (d : Byte), s.cart = some c →
    let u := ppuWrite a d s
    (samePpuByte c a b → (a.toNat ≤ 0x1FFF → c.nChr = 0) → ppuRead b u = ppuReadBack b d s) ∧
      (¬ samePpuByte c a b ∨ (a.toNat ≤ 0x1FFF ∧ c.nChr ≠ 0) → ppuRead b u = ppuRead b s) ∧
      u.cpu = s.cpu ∧ u.bus = s.bus ∧ u.config = s.config ∧
      u.ppu =
        { s.ppu with
          palette := u.ppu.palette, nametable0 := u.ppu.nametable0, nametable1 := u.ppu.nametable1,
          pattern0 := u.ppu.pattern0, pattern1 := u.ppu.pattern1 }

/-! ### The raster and the background pipeline -/

/-- `n` PPU steps. -/
def Sys2Proof.Claim.ppuSteps : Nat → State → State
  | 0, s => s
  | n + 1, s => ppuSteps n (ppuClock s)

/-- Rendering is enabled: bit 3 or bit 4 of `mask` (R15, R35). -/
def Sys2Proof.Claim.rendering (p : Ppu) : Bool :=
  decide (p.mask.toNat / 8 % 2 = 1) || decide (p.mask.toNat / 16 % 2 = 1)

/-- The frame in progress is one that P_ODD_FRAME_SKIP shortens: an odd frame with rendering enabled (R402). -/
def Sys2Proof.Claim.shortFrame (s : State) : Bool :=
  decide (s.config.oddFrameSkip = .oddFramesWhenRendering) && s.ppu.oddFrame && rendering s.ppu

/-- The PPU as the step finds it once the odd-frame skip is made: at (0, 0) of a shortened frame the step is that of (0, 1) (R402). -/
def Sys2Proof.Claim.afterSkip (s : State) : Ppu :=
  { s.ppu with
    cycle := if shortFrame s = true ∧ s.ppu.scanline = 0 ∧ s.ppu.cycle = 0 then 1 else s.ppu.cycle }

/-- A raster position as a number of steps since (-1, 0) (R400). -/
def Sys2Proof.Claim.position (p : Ppu) : Int := (p.scanline + 1) * 341 + p.cycle

/-- The raster (R400, R402, R426; the spec's D3 and C1, log entry 13). One step: it is the step of the position the odd-frame skip
leaves, and it takes that position to the next modulo 341 * 262 = 89342, completing the frame as it wraps. One frame: from (-1, 0),
89342 steps, or 89341 in a frame that the skip shortens, return the raster to (-1, 0) and complete the frame, and no fewer do. -/
def Obligations.FrameIs89342Steps : Prop :=
  ∀ s : State,
    ppuClock s = ppuClock { s with ppu := afterSkip s } ∧
    (s.ppu.rasterOk = true →
      let p := afterSkip s
      let q := (ppuClock s).ppu
      q.rasterOk = true ∧ position q = (position p + 1) % 89342 ∧
        q.frameComplete = (p.frameComplete || decide (position p = 89341)) ∧
        q.oddFrame = (if position p = 89341 then !p.oddFrame else p.oddFrame)) ∧
    (s.ppu.scanline = -1 → s.ppu.cycle = 0 → s.ppu.frameComplete = false →
      let length := if shortFrame s = true then 89341 else 89342
      (let t := ppuSteps length s
       t.ppu.frameComplete = true ∧ t.ppu.scanline = -1 ∧ t.ppu.cycle = 0 ∧ t.ppu.oddFrame = !s.ppu.oddFrame) ∧
      ∀ n : Nat, n < length →
        (let t := ppuSteps n s
         t.ppu.frameComplete = false ∧ t.ppu.oddFrame = s.ppu.oddFrame ∧ t.ppu.cycle ≤ 340 ∧
          position t.ppu = (if shortFrame s = true ∧ 341 < n then n + 1 else n)))

/-- The lines on which the pipeline runs (R403). -/
def Sys2Proof.Claim.fetchLine (p : Ppu) : Bool := decide (-1 ≤ p.scanline) && decide (p.scanline ≤ 239)

/-- The columns of the two fetch windows (R404). -/
def Sys2Proof.Claim.fetchWindow (p : Ppu) : Bool :=
  (decide (2 ≤ p.cycle) && decide (p.cycle ≤ 257)) || (decide (321 ≤ p.cycle) && decide (p.cycle ≤ 337))

/-- `IncrementScrollX` on the number of a loopy register (R412). -/
def Sys2Proof.Claim.nextX (v : Nat) : Nat :=
  if v % 32 = 31 then (if v / 1024 % 2 = 1 then v - 31 - 1024 else v - 31 + 1024) else v + 1

/-- `IncrementScrollY` on the number of a loopy register (R413). -/
def Sys2Proof.Claim.nextY (v : Nat) : Nat :=
  if v / 4096 < 7 then v + 4096
  else
    let v := v - 7 * 4096
    if v / 32 % 32 = 29 then (if v / 2048 % 2 = 1 then v - 29 * 32 - 2048 else v - 29 * 32 + 2048)
    else if v / 32 % 32 = 31 then v - 31 * 32
    else v + 32

/-- `TransferAddressX`: coarse X and nametable X of `t` into `v` (R414). -/
def Sys2Proof.Claim.copyX (t v : Nat) : Nat := v / 2048 * 2048 + t / 1024 % 2 * 1024 + v / 32 % 32 * 32 + t % 32

/-- `TransferAddressY`: fine Y, nametable Y and coarse Y of `t` into `v` (R415). -/
def Sys2Proof.Claim.copyY (t v : Nat) : Nat :=
  t / 2048 * 2048 + v / 1024 % 2 * 1024 + t / 32 % 32 * 32 + v % 32

/-- The scroll register by raster column, the odd-frame skip included (R401, R402, R412 to R415, R419; the spec's D22 and D23): coarse X at the end of every tile, then
coarse and fine Y at column 256, the horizontal copy at 257, the vertical copy at 280-304 of the pre-render line; nothing on other
lines or with rendering disabled. -/
def Obligations.ScrollByColumn : Prop :=
  ∀ s : State,
    let p := afterSkip s
    let v := p.v.toNat
    (ppuClock s).ppu.v =
      if rendering p = true ∧ fetchLine p = true then
        if p.cycle = 256 then BitVec.ofNat 15 (nextY (nextX v))
        else if p.cycle % 8 = 0 ∧ fetchWindow p = true then BitVec.ofNat 15 (nextX v)
        else if p.cycle = 257 then BitVec.ofNat 15 (copyX p.t.toNat v)
        else if p.scanline = -1 ∧ 280 ≤ p.cycle ∧ p.cycle ≤ 304 then BitVec.ofNat 15 (copyY p.t.toNat v)
        else p.v
      else p.v

/-- The attribute byte's address: 0x23C0, the nametable bits of `v`, and the 4 x 4 tile block (R407). -/
def Sys2Proof.Claim.attributeByteAddress (v : Nat) : PpuAddr :=
  BitVec.ofNat 14 (0x23C0 + v / 1024 % 4 * 1024 + v / 128 % 8 * 8 + v / 4 % 8)

/-- The two bits of a 2 x 2 tile quadrant (R407). -/
def Sys2Proof.Claim.quadrantBits (v : Nat) (a : Byte) : Byte :=
  BitVec.ofNat 8 (a.toNat / 2 ^ (v / 64 % 2 * 4 + v / 2 % 2 * 2) % 4)

/-- The address of a pattern row: 16 bytes a tile, the table of bit 4 of `ctrl` (R408). -/
def Sys2Proof.Claim.patternRowAddress (p : Ppu) : Nat :=
  p.ctrl.toNat / 16 % 2 * 4096 + p.bgNextTileId.toNat * 16 + p.v.toNat / 4096

/-- A shifter after this step's shift and load: shifted inside a window while `render_background` is set, its low byte loaded at phase 0
of a window and at column 257 (R404, R410, R411). -/
def Sys2Proof.Claim.shifterNext (p : Ppu) (shifter : Word) (low : Byte) : Word :=
  let n := if fetchWindow p = true ∧ p.mask.toNat / 8 % 2 = 1 then shifter.toNat * 2 % 65536 else shifter.toNat
  if fetchWindow p = true ∧ p.cycle % 8 = 1 then BitVec.ofNat 16 (n / 256 * 256 + low.toNat) else BitVec.ofNat 16 n

/-- The background pipeline by raster column, the odd-frame skip included (R401, R402, R404 to R411, R417; the spec's D17, D22, D23): which latch is fetched from which
address, and the four shifters. -/
def Obligations.BackgroundPipelineByColumn : Prop :=
  ∀ s : State, fetchLine s.ppu = true →
    let p := afterSkip s
    let q := (ppuClock s).ppu
    let phase := fun k => decide (p.cycle % 8 = k) && fetchWindow p
    let copies := fun (b : Bool) => if b then 0xFF#8 else 0x00#8
    q.bgNextTileId =
        (if phase 1 = true ∨ p.cycle = 338 ∨ p.cycle = 340 then ppuRead (BitVec.ofNat 14 (0x2000 + p.v.toNat % 4096)) s
          else p.bgNextTileId) ∧
      q.bgNextTileAttrib =
        (if phase 3 = true then quadrantBits p.v.toNat (ppuRead (attributeByteAddress p.v.toNat) s)
          else p.bgNextTileAttrib) ∧
      q.bgNextTileLsb =
        (if phase 5 = true then ppuRead (BitVec.ofNat 14 (patternRowAddress p)) s else p.bgNextTileLsb) ∧
      q.bgNextTileMsb =
        (if phase 7 = true then ppuRead (BitVec.ofNat 14 (patternRowAddress p + 8)) s else p.bgNextTileMsb) ∧
      q.bgShifterPatternLo = shifterNext p p.bgShifterPatternLo p.bgNextTileLsb ∧
      q.bgShifterPatternHi = shifterNext p p.bgShifterPatternHi p.bgNextTileMsb ∧
      q.bgShifterAttribLo = shifterNext p p.bgShifterAttribLo (copies (p.bgNextTileAttrib.getLsbD 0)) ∧
      q.bgShifterAttribHi = shifterNext p p.bgShifterAttribHi (copies (p.bgNextTileAttrib.getLsbD 1))

/-- Bit `15 - fine_x` of a shifter (R420). -/
def Sys2Proof.Claim.shownBit (p : Ppu) (shifter : Word) : Nat := bit (shifter.getLsbD (15 - p.fineX.toNat))

/-- The pixel of a state of the pipeline (R420, R421). -/
def Sys2Proof.Claim.pixelOf (p : Ppu) : Nat :=
  if p.mask.toNat / 8 % 2 = 0 ∨ (p.mask.toNat / 2 % 2 = 0 ∧ p.cycle ≤ 8) then 0
  else 2 * shownBit p p.bgShifterPatternHi + shownBit p p.bgShifterPatternLo

/-- The colour of a state of the pipeline: the palette byte of the pixel and its palette number, the backdrop when it is transparent
(R420 to R423). -/
def Sys2Proof.Claim.colourOf (p : Ppu) : Colour :=
  let pal := 2 * shownBit p p.bgShifterAttribHi + shownBit p p.bgShifterAttribLo
  let index := if pixelOf p = 0 then 0 else 4 * pal + pixelOf p
  (Memory.read p.palette index &&& (if p.mask.toNat % 2 = 1 then 0x30#8 else 0x3F#8)).setWidth 6

/-- The raster is inside the picture (R425). -/
def Sys2Proof.Claim.inPicture (p : Ppu) : Prop := 0 ≤ p.scanline ∧ p.scanline ≤ 239 ∧ 1 ≤ p.cycle ∧ p.cycle ≤ 256

/-- The picture (R401, R420 to R425; the spec's D16, D18, D19, D24): the pixel step writes exactly the cell (cycle - 1, scanline), inside
the picture only, with the palette colour of the pixel; it changes nothing else. One PPU step makes it on the state its actions leave:
the cell of the step's position gets the colour of the shifters after the step's own shift and load, and no other cell changes. -/
def Obligations.PixelOutput : Prop :=
  ∀ s : State,
    (inPicture s.ppu → ∀ x y, Picture.read (pixelOut s).ppu.frame x y =
      if x + 1 = s.ppu.cycle ∧ (y : Int) = s.ppu.scanline then colourOf s.ppu else Picture.read s.ppu.frame x y) ∧
    (¬ inPicture s.ppu → pixelOut s = s) ∧
    pixelOut s = { s with ppu := { s.ppu with frame := (pixelOut s).ppu.frame } } ∧
    (ppuClock s).ppu.frame = (pixelOut (rasterActions { s with ppu := afterSkip s })).ppu.frame ∧
    (let p := afterSkip s
     let q := (ppuClock s).ppu
     (inPicture p → ∀ x y, Picture.read q.frame x y =
       if x + 1 = p.cycle ∧ (y : Int) = p.scanline then colourOf { q with cycle := p.cycle }
       else Picture.read s.ppu.frame x y) ∧
     (¬ inPicture p → q.frame = s.ppu.frame))

/-- The status flags and the NMI request of one PPU step (R416, R418, R424): the vblank flag is set at (241, 1), the three flags are
cleared at (-1, 1), and no other step touches them; the NMI is requested at (241, 1) exactly when `enable_nmi` is set. R416 carries
the spec's D4 on what the request leads to, and that no step sets the two sprite flags is R424, with its D21 (both log entry 13). -/
def Obligations.VblankFlagByColumn : Prop :=
  ∀ s : State,
    let p := s.ppu
    let q := (ppuClock s).ppu
    q.status =
        (if p.scanline = 241 ∧ p.cycle = 1 then p.status ||| 0x80#8
          else if p.scanline = -1 ∧ p.cycle = 1 then p.status &&& 0x1F#8 else p.status) ∧
      q.nmi = (p.nmi || (decide (p.scanline = 241) && decide (p.cycle = 1) && decide (128 ≤ p.ctrl.toNat)))

/-! ### OAM DMA -/

/-- The DMA engine, step by step (R461, R462): a write to 0x4014 latches the page and starts at cursor 0; a step waits for an odd tick,
then reads at even ticks and writes OAM at odd ticks; the write that wraps the cursor ends the transfer. The source is any page,
read with its side effects (the spec's D51: OAM is written directly). -/
def Obligations.DmaStepByStep : Prop :=
  ∀ (s : State) (d : Byte),
    memWrite 0x4014#16 d s = { s with bus := { s.bus with dmaPage := d, dmaAddr := 0x00#8, dmaTransfer := true } } ∧
    (s.bus.dmaDummy = true → dmaStep s = { s with bus := { s.bus with dmaDummy := decide (s.bus.tick % 2 = 0) } }) ∧
    (s.bus.dmaDummy = false → s.bus.tick % 2 = 0 →
      let r := memRead (s.bus.dmaPage ++ s.bus.dmaAddr) s
      dmaStep s = { r.2 with bus := { r.2.bus with dmaData := r.1 } }) ∧
    (s.bus.dmaDummy = false → s.bus.tick % 2 = 1 →
      let last := decide (s.bus.dmaAddr = 0xFF#8)
      dmaStep s =
        { s with
          ppu := { s.ppu with oam := Memory.write s.ppu.oam s.bus.dmaAddr.toNat s.bus.dmaData }
          bus :=
            { s.bus with
              dmaAddr := s.bus.dmaAddr + 1#8
              dmaTransfer := if last then false else s.bus.dmaTransfer
              dmaDummy := last } })

/-- The ticks one DMA step takes: three in the CPU's slots, one otherwise (R460). -/
def Sys2Proof.Claim.dmaStepTicks (s : State) : Nat :=
  match s.config.dmaTickMode with
  | .cpuSlot => 3
  | .everyTick => 1

/-- A whole OAM transfer (R463, R464; the spec's D1): from its first step, 513 DMA steps from an odd tick or 514 from an even one copy the
256 bytes of a page of memory to OAM in order and end the transfer; the CPU and RAM are as they were, the cartridge too, in both
values of P_DMA_TICK_MODE. With `enable_nmi` clear no NMI intervenes. -/
def Obligations.DmaCopiesPageToOam : Prop :=
  ∀ s : State, s.cart.isSome = true → s.ppu.enableNmi = false → s.ppu.nmi = false → s.bus.dmaTransfer = true →
    s.bus.dmaDummy = true → s.bus.dmaAddr = 0x00#8 → isMemory (s.bus.dmaPage ++ 0x00#8) = true →
    (s.config.dmaTickMode = .cpuSlot → s.bus.tick % 3 = 0) →
    let n := dmaStepTicks s * (if s.bus.tick % 2 = 1 then 513 else 514)
    ∃ t, Host.Core.run Sys2Proof.core n s = .next t ∧
      (∀ k : Byte, Memory.read t.ppu.oam k.toNat = peek (s.bus.dmaPage ++ k) s) ∧
      t.bus =
        { s.bus with
          tick := s.bus.tick + n, dmaData := peek (s.bus.dmaPage ++ 0xFF#8) s, dmaTransfer := false } ∧
      t.cpu = s.cpu ∧ t.cart = s.cart ∧ t.config = s.config
end

