-- ==== Sys2Proof/Laws/Memory.lean ====
section
/-! SUPPORT. The laws of cells: a read after a write, the canonical form kept by every operation, and that equal reads of
canonical memories mean equal memories. -/

namespace Sys2Proof.Machine

variable {α : Type}

/-- A read after an insertion. -/
theorem cellRead_cellInsert (d : α) (m : List (Nat × α)) (a b : Nat) (v : α) :
    cellRead d (cellInsert m a v) b = if b = a then v else cellRead d m b := by
  induction m with
  | nil => simp [cellInsert, cellRead]
  | cons c m ih =>
    obtain ⟨k, u⟩ := c
    simp only [cellInsert]
    split
    · simp [cellRead]
    · split
      · next h => subst h; simp only [cellRead]; split <;> rfl
      · next h =>
        simp only [cellRead, ih]
        by_cases hb : b = k
        · subst hb; simp; intro h'; exact absurd h'.symm h
        · simp [hb]

/-- A read after a removal. -/
theorem cellRead_filter (d : α) (m : List (Nat × α)) (a b : Nat) :
    cellRead d (m.filter (fun c => decide (c.1 ≠ a))) b = if b = a then d else cellRead d m b := by
  induction m with
  | nil => simp [cellRead]
  | cons c m ih =>
    obtain ⟨k, u⟩ := c
    by_cases hk : k = a
    · subst hk
      simp only [ne_eq, not_true_eq_false, decide_false, Bool.false_eq_true, not_false_eq_true, List.filter_cons_of_neg,
        cellRead]
      rw [ih]
      by_cases hb : b = k <;> simp [hb]
    · simp only [ne_eq, hk, not_false_eq_true, decide_true, List.filter_cons_of_pos, cellRead]
      rw [ih]
      by_cases hb : b = k
      · subst hb; simp [hk]
      · simp [hb]

/-- A read after a write: the value at the address written, the old cell elsewhere. -/
theorem cellRead_cellWrite [DecidableEq α] (d : α) (m : List (Nat × α)) (a b : Nat) (v : α) :
    cellRead d (cellWrite d m a v) b = if b = a then v else cellRead d m b := by
  unfold cellWrite
  split
  · next h => subst h; exact cellRead_filter v m a b
  · exact cellRead_cellInsert d m a b v

/-- The canonical form from `lo` on is one from any lower bound on. -/
theorem cellsWfFrom_mono [DecidableEq α] {d : α} {size lo lo' : Nat} {m : List (Nat × α)} (h : lo' ≤ lo)
    (hm : cellsWfFrom d size lo m = true) : cellsWfFrom d size lo' m = true := by
  cases m with
  | nil => rfl
  | cons c m =>
    obtain ⟨k, u⟩ := c
    simp only [cellsWfFrom, Bool.and_eq_true, decide_eq_true_eq] at hm ⊢
    exact ⟨⟨⟨le_trans h hm.1.1.1, hm.1.1.2⟩, hm.1.2⟩, hm.2⟩

/-- Insertion keeps the canonical form. -/
theorem cellsWfFrom_cellInsert [DecidableEq α] {d : α} {size : Nat} {a : Nat} {v : α} (hv : v ≠ d) (ha : a < size) :
    ∀ {m : List (Nat × α)} {lo : Nat}, lo ≤ a → cellsWfFrom d size lo m = true →
      cellsWfFrom d size lo (cellInsert m a v) = true
  | [], lo, hlo, _ => by simp [cellInsert, cellsWfFrom, hlo, ha, hv]
  | (k, u) :: m, lo, hlo, hm => by
    simp only [cellsWfFrom, Bool.and_eq_true, decide_eq_true_eq] at hm
    obtain ⟨⟨⟨h1, h2⟩, h3⟩, h4⟩ := hm
    simp only [cellInsert]
    split
    · next h => simp [cellsWfFrom, hlo, ha, hv, h2, h3, h4]; omega
    · split
      · next h => subst h; simp [cellsWfFrom, hlo, ha, hv, h4]
      · next h h' =>
        have := cellsWfFrom_cellInsert (d := d) (size := size) hv ha (m := m) (lo := k + 1) (by omega) h4
        simp [cellsWfFrom, h1, h2, h3, this]

/-- Removal keeps the canonical form. -/
theorem cellsWfFrom_filter [DecidableEq α] {d : α} {size : Nat} (p : Nat × α → Bool) :
    ∀ {m : List (Nat × α)} {lo : Nat}, cellsWfFrom d size lo m = true → cellsWfFrom d size lo (m.filter p) = true
  | [], _, _ => rfl
  | (k, u) :: m, lo, hm => by
    simp only [cellsWfFrom, Bool.and_eq_true, decide_eq_true_eq] at hm
    obtain ⟨⟨⟨h1, h2⟩, h3⟩, h4⟩ := hm
    have ih := cellsWfFrom_filter (d := d) (size := size) p h4
    by_cases hp : p (k, u) = true
    · simp [hp, cellsWfFrom, h1, h2, h3, ih]
    · simp only [Bool.not_eq_true] at hp
      simpa [hp] using cellsWfFrom_mono (by omega) ih

/-- Every write inside the size keeps the canonical form. -/
theorem cellsWfFrom_cellWrite [DecidableEq α] {d : α} {size a : Nat} {v : α} {m : List (Nat × α)} (ha : a < size)
    (hm : cellsWfFrom d size 0 m = true) : cellsWfFrom d size 0 (cellWrite d m a v) = true := by
  unfold cellWrite
  split
  · exact cellsWfFrom_filter _ hm
  · next h => exact cellsWfFrom_cellInsert h ha (Nat.zero_le _) hm

/-- Below its lower bound a canonical list reads as unlisted. -/
theorem cellRead_below [DecidableEq α] {d : α} {size : Nat} :
    ∀ {m : List (Nat × α)} {lo a : Nat}, cellsWfFrom d size lo m = true → a < lo → cellRead d m a = d
  | [], _, _, _, _ => rfl
  | (k, u) :: m, lo, a, hm, ha => by
    simp only [cellsWfFrom, Bool.and_eq_true, decide_eq_true_eq] at hm
    obtain ⟨⟨⟨h1, _⟩, _⟩, h4⟩ := hm
    simp only [cellRead, show ¬ a = k by omega, if_false]
    exact cellRead_below h4 (by omega)

/-- At or above its size a canonical list reads as unlisted. -/
theorem cellRead_outside [DecidableEq α] {d : α} {size : Nat} :
    ∀ {m : List (Nat × α)} {lo a : Nat}, cellsWfFrom d size lo m = true → size ≤ a → cellRead d m a = d
  | [], _, _, _, _ => rfl
  | (k, u) :: m, lo, a, hm, ha => by
    simp only [cellsWfFrom, Bool.and_eq_true, decide_eq_true_eq] at hm
    obtain ⟨⟨⟨_, h2⟩, _⟩, h4⟩ := hm
    simp only [cellRead, show ¬ a = k by omega, if_false]
    exact cellRead_outside h4 ha

/-- Canonical lists that read alike at every address are equal: equal memories are equal data. -/
theorem cells_ext [DecidableEq α] {d : α} {size : Nat} :
    ∀ {m n : List (Nat × α)} {lo lo' : Nat}, cellsWfFrom d size lo m = true → cellsWfFrom d size lo' n = true →
      (∀ a, cellRead d m a = cellRead d n a) → m = n
  | [], [], _, _, _, _, _ => rfl
  | [], (k, u) :: n, _, _, _, hn, h => by
    simp only [cellsWfFrom, Bool.and_eq_true, decide_eq_true_eq] at hn
    have := h k
    simp only [cellRead, if_true] at this
    exact absurd this.symm hn.1.2
  | (k, u) :: m, [], _, _, hm, _, h => by
    simp only [cellsWfFrom, Bool.and_eq_true, decide_eq_true_eq] at hm
    have := h k
    simp only [cellRead, if_true] at this
    exact absurd this hm.1.2
  | (k, u) :: m, (k', u') :: n, _, _, hm, hn, h => by
    simp only [cellsWfFrom, Bool.and_eq_true, decide_eq_true_eq] at hm hn
    obtain ⟨⟨⟨_, _⟩, hu⟩, hm'⟩ := hm
    obtain ⟨⟨⟨_, _⟩, hu'⟩, hn'⟩ := hn
    have hk : k = k' := by
      rcases Nat.lt_trichotomy k k' with hlt | heq | hgt
      · have := h k
        simp only [cellRead, if_true, show ¬ k = k' by omega, if_false] at this
        rw [cellRead_below hn' (by omega)] at this
        exact absurd this hu
      · exact heq
      · have := h k'
        simp only [cellRead, if_true, show ¬ k' = k by omega, if_false] at this
        rw [cellRead_below hm' (by omega)] at this
        exact absurd this.symm hu'
    subst hk
    have hv : u = u' := by simpa [cellRead] using h k
    subst hv
    congr 1
    refine cells_ext hm' hn' (fun a => ?_)
    by_cases ha : a = k
    · subst ha
      rw [cellRead_below hm' (by omega), cellRead_below hn' (by omega)]
    · simpa [cellRead, ha] using h a

/-! ### Memories of bytes -/

/-- A read after a write of a memory. -/
theorem Memory.read_write (m : Memory) (a b : Nat) (v : Byte) :
    Memory.read (Memory.write m a v) b = if b = a then v else Memory.read m b :=
  cellRead_cellWrite _ m a b v

@[simp] theorem Memory.read_write_self (m : Memory) (a : Nat) (v : Byte) :
    Memory.read (Memory.write m a v) a = v := by simp [Memory.read_write]

theorem Memory.read_write_of_ne (m : Memory) {a b : Nat} (v : Byte) (h : b ≠ a) :
    Memory.read (Memory.write m a v) b = Memory.read m b := by simp [Memory.read_write, h]

@[simp] theorem Memory.read_nil (a : Nat) : Memory.read [] a = 0x00#8 := rfl

/-- A write inside the size keeps `Memory.wf`. -/
theorem Memory.wf_write {size a : Nat} {v : Byte} {m : Memory} (ha : a < size) (hm : Memory.wf size m = true) :
    Memory.wf size (Memory.write m a v) = true := cellsWfFrom_cellWrite ha hm

/-- Canonical memories that read alike are equal. -/
theorem Memory.ext_read {size : Nat} {m n : Memory} (hm : Memory.wf size m = true) (hn : Memory.wf size n = true)
    (h : ∀ a, Memory.read m a = Memory.read n a) : m = n := cells_ext hm hn h

/-- The bytes of a list are in canonical form. -/
theorem bytesFrom_wf {size : Nat} :
    ∀ (bytes : List Byte) (lo : Nat), lo + bytes.length ≤ size →
      cellsWfFrom Memory.unlisted size lo (bytesFrom lo bytes) = true
  | [], _, _ => rfl
  | v :: rest, lo, h => by
    simp only [List.length_cons] at h
    have ih := bytesFrom_wf (size := size) rest (lo + 1) (by omega)
    simp only [bytesFrom]
    split
    · exact cellsWfFrom_mono (Nat.le_succ lo) ih
    · next hv =>
      simp only [cellsWfFrom, le_refl, decide_true, ih, Bool.and_true, Bool.true_and, Bool.and_eq_true,
        decide_eq_true_eq]
      exact ⟨by omega, hv⟩

theorem Memory.wf_ofBytes {size : Nat} {bytes : List Byte} (h : bytes.length ≤ size) :
    Memory.wf size (Memory.ofBytes bytes) = true := bytesFrom_wf bytes 0 (by omega)

/-- Reading a memory made from a list of bytes. -/
theorem cellRead_bytesFrom :
    ∀ (bytes : List Byte) (lo a : Nat),
      cellRead Memory.unlisted (bytesFrom lo bytes) (lo + a) = bytes.getD a Memory.unlisted
  | [], lo, a => by simp [bytesFrom, cellRead]
  | v :: rest, lo, a => by
    have key : ∀ k, cellRead Memory.unlisted (bytesFrom (lo + 1) rest) (lo + (k + 1)) = rest.getD k Memory.unlisted := by
      intro k
      have := cellRead_bytesFrom rest (lo + 1) k
      rwa [show lo + 1 + k = lo + (k + 1) by omega] at this
    have low : cellRead Memory.unlisted (bytesFrom (lo + 1) rest) lo = Memory.unlisted :=
      cellRead_below (size := lo + 1 + rest.length) (bytesFrom_wf rest (lo + 1) (by omega)) (by omega)
    simp only [bytesFrom]
    cases a with
    | zero =>
      split
      · next hv => simp [low, hv]
      · simp [cellRead]
    | succ k =>
      split
      · simpa using key k
      · simp only [cellRead, show ¬ lo + (k + 1) = lo by omega, if_false]
        simpa using key k

/-- Byte `a` of `Memory.ofBytes bytes` is byte `a` of the list, or 0 past its end. -/
theorem Memory.read_ofBytes (bytes : List Byte) (a : Nat) :
    Memory.read (Memory.ofBytes bytes) a = bytes.getD a 0x00#8 := by
  have h := cellRead_bytesFrom bytes 0 a
  rw [Nat.zero_add] at h
  exact h

/-! ### The picture -/

/-- A read after a pixel is written. -/
theorem Picture.read_write (m : Picture) (x y x' y' : Nat) (v : Colour) :
    Picture.read (Picture.write m x y v) x' y' = if x' = x ∧ y' = y then v else Picture.read m x' y' := by
  unfold Picture.read Picture.write Picture.line
  rw [cellRead_cellWrite]
  by_cases hy : y' = y
  · subst hy
    simp only [if_true, and_true]
    rw [cellRead_cellWrite]
  · simp [hy]

/-- Lines of a canonical picture are canonical. -/
theorem Picture.line_wf {m : Picture} (hm : m.all (fun l => cellsWfFrom Picture.unlisted 256 0 l.2) = true) (y : Nat) :
    cellsWfFrom Picture.unlisted 256 0 (Picture.line m y) = true := by
  unfold Picture.line
  induction m with
  | nil => rfl
  | cons c m ih =>
    simp only [List.all_cons, Bool.and_eq_true] at hm
    simp only [cellRead]
    split
    · exact hm.1
    · exact ih hm.2

/-- Every line inserted is one of the old lines or the new one. -/
theorem all_cellInsert {p : Nat × α → Bool} {a : Nat} {v : α} (hv : p (a, v) = true) :
    ∀ {m : List (Nat × α)}, m.all p = true → (cellInsert m a v).all p = true
  | [], _ => by simp [cellInsert, hv]
  | (k, u) :: m, h => by
    simp only [List.all_cons, Bool.and_eq_true] at h
    simp only [cellInsert]
    split
    · simp only [List.all_cons, hv, h.1, h.2, Bool.and_self]
    · split
      · simp only [List.all_cons, hv, h.2, Bool.and_self]
      · simp only [List.all_cons, h.1, all_cellInsert hv h.2, Bool.and_self]

/-- Writing a pixel inside the picture keeps `Picture.wf`. -/
theorem Picture.wf_write {m : Picture} {x y : Nat} {v : Colour} (hx : x < 256) (hy : y < 240)
    (hm : Picture.wf m = true) : Picture.wf (Picture.write m x y v) = true := by
  simp only [Picture.wf, Bool.and_eq_true] at hm ⊢
  refine ⟨cellsWfFrom_cellWrite hy hm.1, ?_⟩
  have hline := cellsWfFrom_cellWrite (v := v) hx (Picture.line_wf hm.2 y)
  unfold Picture.write
  generalize cellWrite Picture.unlisted (Picture.line m y) x v = l at hline
  unfold cellWrite
  split
  · refine List.all_eq_true.mpr (fun c hc => ?_)
    exact List.all_eq_true.mp hm.2 c (List.mem_filter.mp hc).1
  · exact all_cellInsert hline hm.2

end Sys2Proof.Machine
end

