-- ==== Sys2Proof/Laws/State.lean ====
section
/-! SUPPORT. One lemma per field per register write, true by rfl: later proofs never unfold a record update of `Cpu`. -/

namespace Sys2Proof.Machine

/-! ### setA -/

@[simp] theorem State.setA_a (v : Byte) (s : State) : (s.setA v).cpu.a = v := rfl
@[simp] theorem State.setA_x (v : Byte) (s : State) : (s.setA v).cpu.x = s.cpu.x := rfl
@[simp] theorem State.setA_y (v : Byte) (s : State) : (s.setA v).cpu.y = s.cpu.y := rfl
@[simp] theorem State.setA_s (v : Byte) (s : State) : (s.setA v).cpu.s = s.cpu.s := rfl
@[simp] theorem State.setA_p (v : Byte) (s : State) : (s.setA v).cpu.p = s.cpu.p := rfl
@[simp] theorem State.setA_pc (v : Byte) (s : State) : (s.setA v).cpu.pc = s.cpu.pc := rfl
@[simp] theorem State.setA_cycles (v : Byte) (s : State) : (s.setA v).cpu.cycles = s.cpu.cycles := rfl
@[simp] theorem State.setA_opcode (v : Byte) (s : State) : (s.setA v).cpu.opcode = s.cpu.opcode := rfl
@[simp] theorem State.setA_addrAbs (v : Byte) (s : State) : (s.setA v).cpu.addrAbs = s.cpu.addrAbs := rfl
@[simp] theorem State.setA_addrRel (v : Byte) (s : State) : (s.setA v).cpu.addrRel = s.cpu.addrRel := rfl
@[simp] theorem State.setA_fetched (v : Byte) (s : State) : (s.setA v).cpu.fetched = s.cpu.fetched := rfl
@[simp] theorem State.setA_bus (v : Byte) (s : State) : (s.setA v).bus = s.bus := rfl
@[simp] theorem State.setA_cart (v : Byte) (s : State) : (s.setA v).cart = s.cart := rfl
@[simp] theorem State.setA_ppu (v : Byte) (s : State) : (s.setA v).ppu = s.ppu := rfl
@[simp] theorem State.setA_config (v : Byte) (s : State) : (s.setA v).config = s.config := rfl
@[simp] theorem State.setA_setA (v w : Byte) (s : State) : (s.setA v).setA w = s.setA w := rfl

/-! ### setX -/

@[simp] theorem State.setX_a (v : Byte) (s : State) : (s.setX v).cpu.a = s.cpu.a := rfl
@[simp] theorem State.setX_x (v : Byte) (s : State) : (s.setX v).cpu.x = v := rfl
@[simp] theorem State.setX_y (v : Byte) (s : State) : (s.setX v).cpu.y = s.cpu.y := rfl
@[simp] theorem State.setX_s (v : Byte) (s : State) : (s.setX v).cpu.s = s.cpu.s := rfl
@[simp] theorem State.setX_p (v : Byte) (s : State) : (s.setX v).cpu.p = s.cpu.p := rfl
@[simp] theorem State.setX_pc (v : Byte) (s : State) : (s.setX v).cpu.pc = s.cpu.pc := rfl
@[simp] theorem State.setX_cycles (v : Byte) (s : State) : (s.setX v).cpu.cycles = s.cpu.cycles := rfl
@[simp] theorem State.setX_opcode (v : Byte) (s : State) : (s.setX v).cpu.opcode = s.cpu.opcode := rfl
@[simp] theorem State.setX_addrAbs (v : Byte) (s : State) : (s.setX v).cpu.addrAbs = s.cpu.addrAbs := rfl
@[simp] theorem State.setX_addrRel (v : Byte) (s : State) : (s.setX v).cpu.addrRel = s.cpu.addrRel := rfl
@[simp] theorem State.setX_fetched (v : Byte) (s : State) : (s.setX v).cpu.fetched = s.cpu.fetched := rfl
@[simp] theorem State.setX_bus (v : Byte) (s : State) : (s.setX v).bus = s.bus := rfl
@[simp] theorem State.setX_cart (v : Byte) (s : State) : (s.setX v).cart = s.cart := rfl
@[simp] theorem State.setX_ppu (v : Byte) (s : State) : (s.setX v).ppu = s.ppu := rfl
@[simp] theorem State.setX_config (v : Byte) (s : State) : (s.setX v).config = s.config := rfl
@[simp] theorem State.setX_setX (v w : Byte) (s : State) : (s.setX v).setX w = s.setX w := rfl

/-! ### setY -/

@[simp] theorem State.setY_a (v : Byte) (s : State) : (s.setY v).cpu.a = s.cpu.a := rfl
@[simp] theorem State.setY_x (v : Byte) (s : State) : (s.setY v).cpu.x = s.cpu.x := rfl
@[simp] theorem State.setY_y (v : Byte) (s : State) : (s.setY v).cpu.y = v := rfl
@[simp] theorem State.setY_s (v : Byte) (s : State) : (s.setY v).cpu.s = s.cpu.s := rfl
@[simp] theorem State.setY_p (v : Byte) (s : State) : (s.setY v).cpu.p = s.cpu.p := rfl
@[simp] theorem State.setY_pc (v : Byte) (s : State) : (s.setY v).cpu.pc = s.cpu.pc := rfl
@[simp] theorem State.setY_cycles (v : Byte) (s : State) : (s.setY v).cpu.cycles = s.cpu.cycles := rfl
@[simp] theorem State.setY_opcode (v : Byte) (s : State) : (s.setY v).cpu.opcode = s.cpu.opcode := rfl
@[simp] theorem State.setY_addrAbs (v : Byte) (s : State) : (s.setY v).cpu.addrAbs = s.cpu.addrAbs := rfl
@[simp] theorem State.setY_addrRel (v : Byte) (s : State) : (s.setY v).cpu.addrRel = s.cpu.addrRel := rfl
@[simp] theorem State.setY_fetched (v : Byte) (s : State) : (s.setY v).cpu.fetched = s.cpu.fetched := rfl
@[simp] theorem State.setY_bus (v : Byte) (s : State) : (s.setY v).bus = s.bus := rfl
@[simp] theorem State.setY_cart (v : Byte) (s : State) : (s.setY v).cart = s.cart := rfl
@[simp] theorem State.setY_ppu (v : Byte) (s : State) : (s.setY v).ppu = s.ppu := rfl
@[simp] theorem State.setY_config (v : Byte) (s : State) : (s.setY v).config = s.config := rfl
@[simp] theorem State.setY_setY (v w : Byte) (s : State) : (s.setY v).setY w = s.setY w := rfl

/-! ### setS -/

@[simp] theorem State.setS_a (v : Byte) (s : State) : (s.setS v).cpu.a = s.cpu.a := rfl
@[simp] theorem State.setS_x (v : Byte) (s : State) : (s.setS v).cpu.x = s.cpu.x := rfl
@[simp] theorem State.setS_y (v : Byte) (s : State) : (s.setS v).cpu.y = s.cpu.y := rfl
@[simp] theorem State.setS_s (v : Byte) (s : State) : (s.setS v).cpu.s = v := rfl
@[simp] theorem State.setS_p (v : Byte) (s : State) : (s.setS v).cpu.p = s.cpu.p := rfl
@[simp] theorem State.setS_pc (v : Byte) (s : State) : (s.setS v).cpu.pc = s.cpu.pc := rfl
@[simp] theorem State.setS_cycles (v : Byte) (s : State) : (s.setS v).cpu.cycles = s.cpu.cycles := rfl
@[simp] theorem State.setS_opcode (v : Byte) (s : State) : (s.setS v).cpu.opcode = s.cpu.opcode := rfl
@[simp] theorem State.setS_addrAbs (v : Byte) (s : State) : (s.setS v).cpu.addrAbs = s.cpu.addrAbs := rfl
@[simp] theorem State.setS_addrRel (v : Byte) (s : State) : (s.setS v).cpu.addrRel = s.cpu.addrRel := rfl
@[simp] theorem State.setS_fetched (v : Byte) (s : State) : (s.setS v).cpu.fetched = s.cpu.fetched := rfl
@[simp] theorem State.setS_bus (v : Byte) (s : State) : (s.setS v).bus = s.bus := rfl
@[simp] theorem State.setS_cart (v : Byte) (s : State) : (s.setS v).cart = s.cart := rfl
@[simp] theorem State.setS_ppu (v : Byte) (s : State) : (s.setS v).ppu = s.ppu := rfl
@[simp] theorem State.setS_config (v : Byte) (s : State) : (s.setS v).config = s.config := rfl
@[simp] theorem State.setS_setS (v w : Byte) (s : State) : (s.setS v).setS w = s.setS w := rfl

/-! ### setP -/

@[simp] theorem State.setP_a (v : Byte) (s : State) : (s.setP v).cpu.a = s.cpu.a := rfl
@[simp] theorem State.setP_x (v : Byte) (s : State) : (s.setP v).cpu.x = s.cpu.x := rfl
@[simp] theorem State.setP_y (v : Byte) (s : State) : (s.setP v).cpu.y = s.cpu.y := rfl
@[simp] theorem State.setP_s (v : Byte) (s : State) : (s.setP v).cpu.s = s.cpu.s := rfl
@[simp] theorem State.setP_p (v : Byte) (s : State) : (s.setP v).cpu.p = v := rfl
@[simp] theorem State.setP_pc (v : Byte) (s : State) : (s.setP v).cpu.pc = s.cpu.pc := rfl
@[simp] theorem State.setP_cycles (v : Byte) (s : State) : (s.setP v).cpu.cycles = s.cpu.cycles := rfl
@[simp] theorem State.setP_opcode (v : Byte) (s : State) : (s.setP v).cpu.opcode = s.cpu.opcode := rfl
@[simp] theorem State.setP_addrAbs (v : Byte) (s : State) : (s.setP v).cpu.addrAbs = s.cpu.addrAbs := rfl
@[simp] theorem State.setP_addrRel (v : Byte) (s : State) : (s.setP v).cpu.addrRel = s.cpu.addrRel := rfl
@[simp] theorem State.setP_fetched (v : Byte) (s : State) : (s.setP v).cpu.fetched = s.cpu.fetched := rfl
@[simp] theorem State.setP_bus (v : Byte) (s : State) : (s.setP v).bus = s.bus := rfl
@[simp] theorem State.setP_cart (v : Byte) (s : State) : (s.setP v).cart = s.cart := rfl
@[simp] theorem State.setP_ppu (v : Byte) (s : State) : (s.setP v).ppu = s.ppu := rfl
@[simp] theorem State.setP_config (v : Byte) (s : State) : (s.setP v).config = s.config := rfl
@[simp] theorem State.setP_setP (v w : Byte) (s : State) : (s.setP v).setP w = s.setP w := rfl

/-! ### setPc -/

@[simp] theorem State.setPc_a (v : Word) (s : State) : (s.setPc v).cpu.a = s.cpu.a := rfl
@[simp] theorem State.setPc_x (v : Word) (s : State) : (s.setPc v).cpu.x = s.cpu.x := rfl
@[simp] theorem State.setPc_y (v : Word) (s : State) : (s.setPc v).cpu.y = s.cpu.y := rfl
@[simp] theorem State.setPc_s (v : Word) (s : State) : (s.setPc v).cpu.s = s.cpu.s := rfl
@[simp] theorem State.setPc_p (v : Word) (s : State) : (s.setPc v).cpu.p = s.cpu.p := rfl
@[simp] theorem State.setPc_pc (v : Word) (s : State) : (s.setPc v).cpu.pc = v := rfl
@[simp] theorem State.setPc_cycles (v : Word) (s : State) : (s.setPc v).cpu.cycles = s.cpu.cycles := rfl
@[simp] theorem State.setPc_opcode (v : Word) (s : State) : (s.setPc v).cpu.opcode = s.cpu.opcode := rfl
@[simp] theorem State.setPc_addrAbs (v : Word) (s : State) : (s.setPc v).cpu.addrAbs = s.cpu.addrAbs := rfl
@[simp] theorem State.setPc_addrRel (v : Word) (s : State) : (s.setPc v).cpu.addrRel = s.cpu.addrRel := rfl
@[simp] theorem State.setPc_fetched (v : Word) (s : State) : (s.setPc v).cpu.fetched = s.cpu.fetched := rfl
@[simp] theorem State.setPc_bus (v : Word) (s : State) : (s.setPc v).bus = s.bus := rfl
@[simp] theorem State.setPc_cart (v : Word) (s : State) : (s.setPc v).cart = s.cart := rfl
@[simp] theorem State.setPc_ppu (v : Word) (s : State) : (s.setPc v).ppu = s.ppu := rfl
@[simp] theorem State.setPc_config (v : Word) (s : State) : (s.setPc v).config = s.config := rfl
@[simp] theorem State.setPc_setPc (v w : Word) (s : State) : (s.setPc v).setPc w = s.setPc w := rfl

/-! ### setCycles -/

@[simp] theorem State.setCycles_a (v : Nat) (s : State) : (s.setCycles v).cpu.a = s.cpu.a := rfl
@[simp] theorem State.setCycles_x (v : Nat) (s : State) : (s.setCycles v).cpu.x = s.cpu.x := rfl
@[simp] theorem State.setCycles_y (v : Nat) (s : State) : (s.setCycles v).cpu.y = s.cpu.y := rfl
@[simp] theorem State.setCycles_s (v : Nat) (s : State) : (s.setCycles v).cpu.s = s.cpu.s := rfl
@[simp] theorem State.setCycles_p (v : Nat) (s : State) : (s.setCycles v).cpu.p = s.cpu.p := rfl
@[simp] theorem State.setCycles_pc (v : Nat) (s : State) : (s.setCycles v).cpu.pc = s.cpu.pc := rfl
@[simp] theorem State.setCycles_cycles (v : Nat) (s : State) : (s.setCycles v).cpu.cycles = v := rfl
@[simp] theorem State.setCycles_opcode (v : Nat) (s : State) : (s.setCycles v).cpu.opcode = s.cpu.opcode := rfl
@[simp] theorem State.setCycles_addrAbs (v : Nat) (s : State) : (s.setCycles v).cpu.addrAbs = s.cpu.addrAbs := rfl
@[simp] theorem State.setCycles_addrRel (v : Nat) (s : State) : (s.setCycles v).cpu.addrRel = s.cpu.addrRel := rfl
@[simp] theorem State.setCycles_fetched (v : Nat) (s : State) : (s.setCycles v).cpu.fetched = s.cpu.fetched := rfl
@[simp] theorem State.setCycles_bus (v : Nat) (s : State) : (s.setCycles v).bus = s.bus := rfl
@[simp] theorem State.setCycles_cart (v : Nat) (s : State) : (s.setCycles v).cart = s.cart := rfl
@[simp] theorem State.setCycles_ppu (v : Nat) (s : State) : (s.setCycles v).ppu = s.ppu := rfl
@[simp] theorem State.setCycles_config (v : Nat) (s : State) : (s.setCycles v).config = s.config := rfl
@[simp] theorem State.setCycles_setCycles (v w : Nat) (s : State) : (s.setCycles v).setCycles w = s.setCycles w := rfl

/-! ### setOpcode -/

@[simp] theorem State.setOpcode_a (v : Byte) (s : State) : (s.setOpcode v).cpu.a = s.cpu.a := rfl
@[simp] theorem State.setOpcode_x (v : Byte) (s : State) : (s.setOpcode v).cpu.x = s.cpu.x := rfl
@[simp] theorem State.setOpcode_y (v : Byte) (s : State) : (s.setOpcode v).cpu.y = s.cpu.y := rfl
@[simp] theorem State.setOpcode_s (v : Byte) (s : State) : (s.setOpcode v).cpu.s = s.cpu.s := rfl
@[simp] theorem State.setOpcode_p (v : Byte) (s : State) : (s.setOpcode v).cpu.p = s.cpu.p := rfl
@[simp] theorem State.setOpcode_pc (v : Byte) (s : State) : (s.setOpcode v).cpu.pc = s.cpu.pc := rfl
@[simp] theorem State.setOpcode_cycles (v : Byte) (s : State) : (s.setOpcode v).cpu.cycles = s.cpu.cycles := rfl
@[simp] theorem State.setOpcode_opcode (v : Byte) (s : State) : (s.setOpcode v).cpu.opcode = v := rfl
@[simp] theorem State.setOpcode_addrAbs (v : Byte) (s : State) : (s.setOpcode v).cpu.addrAbs = s.cpu.addrAbs := rfl
@[simp] theorem State.setOpcode_addrRel (v : Byte) (s : State) : (s.setOpcode v).cpu.addrRel = s.cpu.addrRel := rfl
@[simp] theorem State.setOpcode_fetched (v : Byte) (s : State) : (s.setOpcode v).cpu.fetched = s.cpu.fetched := rfl
@[simp] theorem State.setOpcode_bus (v : Byte) (s : State) : (s.setOpcode v).bus = s.bus := rfl
@[simp] theorem State.setOpcode_cart (v : Byte) (s : State) : (s.setOpcode v).cart = s.cart := rfl
@[simp] theorem State.setOpcode_ppu (v : Byte) (s : State) : (s.setOpcode v).ppu = s.ppu := rfl
@[simp] theorem State.setOpcode_config (v : Byte) (s : State) : (s.setOpcode v).config = s.config := rfl
@[simp] theorem State.setOpcode_setOpcode (v w : Byte) (s : State) : (s.setOpcode v).setOpcode w = s.setOpcode w := rfl

/-! ### setAddrAbs -/

@[simp] theorem State.setAddrAbs_a (v : Word) (s : State) : (s.setAddrAbs v).cpu.a = s.cpu.a := rfl
@[simp] theorem State.setAddrAbs_x (v : Word) (s : State) : (s.setAddrAbs v).cpu.x = s.cpu.x := rfl
@[simp] theorem State.setAddrAbs_y (v : Word) (s : State) : (s.setAddrAbs v).cpu.y = s.cpu.y := rfl
@[simp] theorem State.setAddrAbs_s (v : Word) (s : State) : (s.setAddrAbs v).cpu.s = s.cpu.s := rfl
@[simp] theorem State.setAddrAbs_p (v : Word) (s : State) : (s.setAddrAbs v).cpu.p = s.cpu.p := rfl
@[simp] theorem State.setAddrAbs_pc (v : Word) (s : State) : (s.setAddrAbs v).cpu.pc = s.cpu.pc := rfl
@[simp] theorem State.setAddrAbs_cycles (v : Word) (s : State) : (s.setAddrAbs v).cpu.cycles = s.cpu.cycles := rfl
@[simp] theorem State.setAddrAbs_opcode (v : Word) (s : State) : (s.setAddrAbs v).cpu.opcode = s.cpu.opcode := rfl
@[simp] theorem State.setAddrAbs_addrAbs (v : Word) (s : State) : (s.setAddrAbs v).cpu.addrAbs = v := rfl
@[simp] theorem State.setAddrAbs_addrRel (v : Word) (s : State) : (s.setAddrAbs v).cpu.addrRel = s.cpu.addrRel := rfl
@[simp] theorem State.setAddrAbs_fetched (v : Word) (s : State) : (s.setAddrAbs v).cpu.fetched = s.cpu.fetched := rfl
@[simp] theorem State.setAddrAbs_bus (v : Word) (s : State) : (s.setAddrAbs v).bus = s.bus := rfl
@[simp] theorem State.setAddrAbs_cart (v : Word) (s : State) : (s.setAddrAbs v).cart = s.cart := rfl
@[simp] theorem State.setAddrAbs_ppu (v : Word) (s : State) : (s.setAddrAbs v).ppu = s.ppu := rfl
@[simp] theorem State.setAddrAbs_config (v : Word) (s : State) : (s.setAddrAbs v).config = s.config := rfl
@[simp] theorem State.setAddrAbs_setAddrAbs (v w : Word) (s : State) : (s.setAddrAbs v).setAddrAbs w = s.setAddrAbs w := rfl

/-! ### setAddrRel -/

@[simp] theorem State.setAddrRel_a (v : Word) (s : State) : (s.setAddrRel v).cpu.a = s.cpu.a := rfl
@[simp] theorem State.setAddrRel_x (v : Word) (s : State) : (s.setAddrRel v).cpu.x = s.cpu.x := rfl
@[simp] theorem State.setAddrRel_y (v : Word) (s : State) : (s.setAddrRel v).cpu.y = s.cpu.y := rfl
@[simp] theorem State.setAddrRel_s (v : Word) (s : State) : (s.setAddrRel v).cpu.s = s.cpu.s := rfl
@[simp] theorem State.setAddrRel_p (v : Word) (s : State) : (s.setAddrRel v).cpu.p = s.cpu.p := rfl
@[simp] theorem State.setAddrRel_pc (v : Word) (s : State) : (s.setAddrRel v).cpu.pc = s.cpu.pc := rfl
@[simp] theorem State.setAddrRel_cycles (v : Word) (s : State) : (s.setAddrRel v).cpu.cycles = s.cpu.cycles := rfl
@[simp] theorem State.setAddrRel_opcode (v : Word) (s : State) : (s.setAddrRel v).cpu.opcode = s.cpu.opcode := rfl
@[simp] theorem State.setAddrRel_addrAbs (v : Word) (s : State) : (s.setAddrRel v).cpu.addrAbs = s.cpu.addrAbs := rfl
@[simp] theorem State.setAddrRel_addrRel (v : Word) (s : State) : (s.setAddrRel v).cpu.addrRel = v := rfl
@[simp] theorem State.setAddrRel_fetched (v : Word) (s : State) : (s.setAddrRel v).cpu.fetched = s.cpu.fetched := rfl
@[simp] theorem State.setAddrRel_bus (v : Word) (s : State) : (s.setAddrRel v).bus = s.bus := rfl
@[simp] theorem State.setAddrRel_cart (v : Word) (s : State) : (s.setAddrRel v).cart = s.cart := rfl
@[simp] theorem State.setAddrRel_ppu (v : Word) (s : State) : (s.setAddrRel v).ppu = s.ppu := rfl
@[simp] theorem State.setAddrRel_config (v : Word) (s : State) : (s.setAddrRel v).config = s.config := rfl
@[simp] theorem State.setAddrRel_setAddrRel (v w : Word) (s : State) : (s.setAddrRel v).setAddrRel w = s.setAddrRel w := rfl

/-! ### setFetched -/

@[simp] theorem State.setFetched_a (v : Byte) (s : State) : (s.setFetched v).cpu.a = s.cpu.a := rfl
@[simp] theorem State.setFetched_x (v : Byte) (s : State) : (s.setFetched v).cpu.x = s.cpu.x := rfl
@[simp] theorem State.setFetched_y (v : Byte) (s : State) : (s.setFetched v).cpu.y = s.cpu.y := rfl
@[simp] theorem State.setFetched_s (v : Byte) (s : State) : (s.setFetched v).cpu.s = s.cpu.s := rfl
@[simp] theorem State.setFetched_p (v : Byte) (s : State) : (s.setFetched v).cpu.p = s.cpu.p := rfl
@[simp] theorem State.setFetched_pc (v : Byte) (s : State) : (s.setFetched v).cpu.pc = s.cpu.pc := rfl
@[simp] theorem State.setFetched_cycles (v : Byte) (s : State) : (s.setFetched v).cpu.cycles = s.cpu.cycles := rfl
@[simp] theorem State.setFetched_opcode (v : Byte) (s : State) : (s.setFetched v).cpu.opcode = s.cpu.opcode := rfl
@[simp] theorem State.setFetched_addrAbs (v : Byte) (s : State) : (s.setFetched v).cpu.addrAbs = s.cpu.addrAbs := rfl
@[simp] theorem State.setFetched_addrRel (v : Byte) (s : State) : (s.setFetched v).cpu.addrRel = s.cpu.addrRel := rfl
@[simp] theorem State.setFetched_fetched (v : Byte) (s : State) : (s.setFetched v).cpu.fetched = v := rfl
@[simp] theorem State.setFetched_bus (v : Byte) (s : State) : (s.setFetched v).bus = s.bus := rfl
@[simp] theorem State.setFetched_cart (v : Byte) (s : State) : (s.setFetched v).cart = s.cart := rfl
@[simp] theorem State.setFetched_ppu (v : Byte) (s : State) : (s.setFetched v).ppu = s.ppu := rfl
@[simp] theorem State.setFetched_config (v : Byte) (s : State) : (s.setFetched v).config = s.config := rfl
@[simp] theorem State.setFetched_setFetched (v w : Byte) (s : State) : (s.setFetched v).setFetched w = s.setFetched w := rfl

/-! ### forceUnused -/

@[simp] theorem forceUnused_cpu (s : State) : (forceUnused s).cpu = { s.cpu with p := setFlag .u true s.cpu.p } := rfl
@[simp] theorem forceUnused_bus (s : State) : (forceUnused s).bus = s.bus := rfl
@[simp] theorem forceUnused_cart (s : State) : (forceUnused s).cart = s.cart := rfl
@[simp] theorem forceUnused_ppu (s : State) : (forceUnused s).ppu = s.ppu := rfl
@[simp] theorem forceUnused_config (s : State) : (forceUnused s).config = s.config := rfl

/-! ### Answers -/

@[simp] theorem Result.andThen_next (s : State) (f : State → State) :
    Result.andThen (.next s) f = .next (f s) := rfl
@[simp] theorem Result.andThen_refused (e : Refusal) (f : State → State) :
    Result.andThen (.refused e) f = .refused e := rfl

/-- An answer that goes on answers a next state exactly when the first part did. -/
theorem Result.andThen_eq_next {r : Result} {f : State → State} {t : State} :
    Result.andThen r f = .next t ↔ ∃ s, r = .next s ∧ t = f s := by
  cases r <;> simp [Result.andThen, eq_comm]

/-- Replacing the whole CPU of a state: reading the parts back. -/
theorem State.ext_parts {s t : State} (h1 : s.cpu = t.cpu) (h2 : s.bus = t.bus) (h3 : s.cart = t.cart)
    (h4 : s.ppu = t.ppu) (h5 : s.config = t.config) : s = t := by
  cases s
  cases t
  simp_all

end Sys2Proof.Machine
end

