-- ==== Sys2Proof/Laws/Bus.lean ====
section
/-! SUPPORT. The laws of the CPU bus: what one read and one write of it can do, seen from the CPU, from memory and through a peek. -/

namespace Sys2Proof.Machine

open Sys2Proof.Claim

/-! ### The PPU bus and ports leave the rest alone -/

theorem ppuWrite_frame (a : PpuAddr) (d : Byte) (s : State) :
    (ppuWrite a d s).cpu = s.cpu ∧ (ppuWrite a d s).bus = s.bus ∧ (ppuWrite a d s).config = s.config := by
  unfold ppuWrite
  split
  · exact ⟨rfl, rfl, rfl⟩
  · split
    · exact ⟨rfl, rfl, rfl⟩
    · split <;> exact ⟨rfl, rfl, rfl⟩

theorem ppuPortRead_frame (port : PpuPort) (s : State) :
    (ppuPortRead port s).2 = { s with ppu := (ppuPortRead port s).2.ppu } := by
  cases port <;> rfl

theorem ppuPortWrite_frame (port : PpuPort) (d : Byte) (s : State) :
    (ppuPortWrite port d s).cpu = s.cpu ∧ (ppuPortWrite port d s).bus = s.bus ∧
      (ppuPortWrite port d s).config = s.config := by
  cases port <;> first | exact ⟨rfl, rfl, rfl⟩ | exact ppuWrite_frame _ _ s

/-- The CPU is not seen by the PPU's ports. -/
theorem ppuPortRead_withCpu (port : PpuPort) (c : Cpu) (s : State) :
    ppuPortRead port { s with cpu := c } = ((ppuPortRead port s).1, { (ppuPortRead port s).2 with cpu := c }) := by
  cases port <;> rfl

theorem ppuWrite_withCpu (a : PpuAddr) (d : Byte) (c : Cpu) (s : State) :
    ppuWrite a d { s with cpu := c } = { ppuWrite a d s with cpu := c } := by
  rcases h : cartPpuWrite s.cart a d with _ | k
  · by_cases h1 : a.toNat ≤ 0x1FFF
    · simp only [ppuWrite, h, h1, if_true]
    · by_cases h2 : a.toNat ≤ 0x3EFF
      · simp only [ppuWrite, h, h1, h2, if_true, if_false]
      · simp only [ppuWrite, h, h1, h2, if_false]
  · simp only [ppuWrite, h]

theorem ppuPortWrite_withCpu (port : PpuPort) (d : Byte) (c : Cpu) (s : State) :
    ppuPortWrite port d { s with cpu := c } = { ppuPortWrite port d s with cpu := c } := by
  cases port <;> first | rfl | skip
  simp only [ppuPortWrite, dataWrite]
  rw [ppuWrite_withCpu]

/-! ### Reads -/

/-- What a read can change: the PPU's registers and the controller latches, nothing else. -/
theorem memRead_frame (a : Word) (s : State) :
    (memRead a s).2.cpu = s.cpu ∧ (memRead a s).2.cart = s.cart ∧ (memRead a s).2.config = s.config ∧
      (memRead a s).2.bus.ram = s.bus.ram := by
  unfold memRead
  split
  · exact ⟨rfl, rfl, rfl, rfl⟩
  · split
    · exact ⟨rfl, rfl, rfl, rfl⟩
    · split
      · rw [ppuPortRead_frame]; exact ⟨rfl, rfl, rfl, rfl⟩
      · split
        · cases controllerOf a <;> exact ⟨rfl, rfl, rfl, rfl⟩
        · exact ⟨rfl, rfl, rfl, rfl⟩

@[simp] theorem memRead_cpu (a : Word) (s : State) : (memRead a s).2.cpu = s.cpu := (memRead_frame a s).1
@[simp] theorem memRead_cart (a : Word) (s : State) : (memRead a s).2.cart = s.cart := (memRead_frame a s).2.1
@[simp] theorem memRead_config (a : Word) (s : State) : (memRead a s).2.config = s.config :=
  (memRead_frame a s).2.2.1
@[simp] theorem memRead_ram (a : Word) (s : State) : (memRead a s).2.bus.ram = s.bus.ram :=
  (memRead_frame a s).2.2.2

/-- A read touches no PPU memory. -/
theorem memRead_ppuMemories (a : Word) (s : State) : PpuMemoriesKept (memRead a s).2 s := by
  unfold memRead
  split
  · exact ⟨rfl, rfl, rfl, rfl, rfl, rfl, rfl⟩
  · split
    · exact ⟨rfl, rfl, rfl, rfl, rfl, rfl, rfl⟩
    · split
      · cases portOf a <;> exact ⟨rfl, rfl, rfl, rfl, rfl, rfl, rfl⟩
      · split
        · cases controllerOf a <;> exact ⟨rfl, rfl, rfl, rfl, rfl, rfl, rfl⟩
        · exact ⟨rfl, rfl, rfl, rfl, rfl, rfl, rfl⟩

/-- The CPU is not seen by a read. -/
theorem memRead_withCpu (a : Word) (c : Cpu) (s : State) :
    memRead a { s with cpu := c } = ((memRead a s).1, { (memRead a s).2 with cpu := c }) := by
  rcases h : cartCpuRead s.cart a with _ | d
  · by_cases h1 : a.toNat ≤ 0x1FFF
    · simp only [memRead, h, h1, if_true]
    · by_cases h2 : 0x2000 ≤ a.toNat ∧ a.toNat ≤ 0x3FFF
      · simp only [memRead, h, h1, if_false, if_pos h2]
        exact ppuPortRead_withCpu _ c s
      · by_cases h3 : 0x4016 ≤ a.toNat ∧ a.toNat ≤ 0x4017
        · simp only [memRead, h, h1, if_false, if_neg h2, if_pos h3]
          cases controllerOf a <;> rfl
        · simp only [memRead, h, h1, if_false, if_neg h2, if_neg h3]
  · simp only [memRead, h]

/-- A peek sees neither the CPU nor the parameters. -/
theorem peek_congr {s t : State} (a : Word) (hb : t.bus = s.bus) (hc : t.cart = s.cart) (hp : t.ppu = s.ppu) :
    peek a t = peek a s := by
  cases s; cases t
  simp only at hb hc hp
  subst hb; subst hc; subst hp
  rfl

/-- A cartridge never claims an address below 0x8000 (R82). -/
theorem cartCpuRead_low {cart : Option Cartridge} {a : Word} (h : a.toNat < 0x8000) : cartCpuRead cart a = none := by
  cases cart with
  | none => rfl
  | some c => simp [cartCpuRead, cpuMap, show ¬ 0x8000 ≤ a.toNat by omega]

theorem cartCpuWrite_low {mode : PrgWrite} {cart : Option Cartridge} {a : Word} {v : Byte} (h : a.toNat < 0x8000) :
    cartCpuWrite mode cart a v = none := by
  cases cart with
  | none => rfl
  | some c => simp [cartCpuWrite, cpuMap, show ¬ 0x8000 ≤ a.toNat by omega]

/-- The cartridge never claims a PPU address from 0x2000 on (R87, R88). -/
theorem cartPpuRead_high {cart : Option Cartridge} {a : PpuAddr} (h : 0x2000 ≤ a.toNat) : cartPpuRead cart a = none := by
  cases cart with
  | none => rfl
  | some c => simp [cartPpuRead, ppuMapRead, show ¬ a.toNat ≤ 0x1FFF by omega]

theorem cartPpuWrite_high {cart : Option Cartridge} {a : PpuAddr} {d : Byte} (h : 0x2000 ≤ a.toNat) :
    cartPpuWrite cart a d = none := by
  cases cart with
  | none => rfl
  | some c => simp [cartPpuWrite, ppuMapWrite, show ¬ a.toNat ≤ 0x1FFF by omega]

/-- A palette read of the PPU bus is `PaletteRead`. -/
theorem ppuRead_palette {a : PpuAddr} (s : State) (h : 0x3F00 ≤ a.toNat) : ppuRead a s = paletteRead a s.ppu := by
  unfold ppuRead
  rw [cartPpuRead_high (by omega)]
  simp [show ¬ a.toNat ≤ 0x1FFF by omega, show ¬ a.toNat ≤ 0x3EFF by omega]

/-- A peek gives the byte a read gives (R76, R378). -/
theorem memRead_value (a : Word) (s : State) : (memRead a s).1 = peek a s := by
  unfold memRead peek
  split
  · rfl
  · split
    · rfl
    · split
      · cases portOf a <;> first | rfl | skip
        simp only [ppuPortRead, ppuPortPeek, dataRead, dataByte]
        split
        · next h => exact ppuRead_palette s h
        · rfl
      · split
        · cases controllerOf a <;> rfl
        · rfl

/-- The offset of a RAM address as a number (R74). -/
theorem ramOffset_eq (a : Word) : ramOffset a = a.toNat % 2048 := by
  unfold ramOffset
  rw [BitVec.toNat_and]
  exact Nat.and_two_pow_sub_one_eq_mod a.toNat 11

/-- A RAM read: the byte, and nothing else. -/
theorem memRead_low {a : Word} (s : State) (h : a.toNat ≤ 0x1FFF) :
    memRead a s = (Memory.read s.bus.ram (a.toNat % 2048), s) := by
  unfold memRead
  rw [cartCpuRead_low (by omega)]
  simp [h, ramOffset_eq]

theorem peek_low {a : Word} (s : State) (h : a.toNat ≤ 0x1FFF) :
    peek a s = Memory.read s.bus.ram (a.toNat % 2048) := by
  rw [← memRead_value, memRead_low s h]

/-- From 0x8000 on only the cartridge answers. -/
theorem memRead_high {a : Word} (s : State) (h : 0x8000 ≤ a.toNat) :
    memRead a s = ((cartCpuRead s.cart a).getD 0x00#8, s) := by
  unfold memRead
  split
  · next d hd => rw [hd]; rfl
  · next hd =>
    rw [hd]
    simp [show ¬ a.toNat ≤ 0x1FFF by omega, show ¬ (0x2000 ≤ a.toNat ∧ a.toNat ≤ 0x3FFF) by omega,
      show ¬ (0x4016 ≤ a.toNat ∧ a.toNat ≤ 0x4017) by omega]

theorem peek_high {a : Word} (s : State) (h : 0x8000 ≤ a.toNat) : peek a s = (cartCpuRead s.cart a).getD 0x00#8 := by
  rw [← memRead_value, memRead_high s h]

/-- Reading memory has no side effect. -/
theorem memRead_memory {a : Word} (s : State) (h : isMemory a = true) : memRead a s = (peek a s, s) := by
  simp only [isMemory, Bool.or_eq_true, decide_eq_true_eq] at h
  rw [← memRead_value]
  rcases h with h | h
  · rw [memRead_low s h]
  · rw [memRead_high s h]

/-- A peek of memory depends on RAM and the cartridge only. -/
theorem peek_memory_congr {s t : State} {a : Word} (h : isMemory a = true) (hr : t.bus.ram = s.bus.ram)
    (hc : t.cart = s.cart) : peek a t = peek a s := by
  simp only [isMemory, Bool.or_eq_true, decide_eq_true_eq] at h
  rcases h with h | h
  · rw [peek_low t h, peek_low s h, hr]
  · rw [peek_high t h, peek_high s h, hc]

/-- Memory is kept by whatever keeps RAM, the cartridge and the PPU's memories. -/
theorem memoryKept_of {t s : State} (hr : t.bus.ram = s.bus.ram) (hc : t.cart = s.cart) (hp : PpuMemoriesKept t s) :
    MemoryKept t s :=
  ⟨fun _ h => peek_memory_congr h hr hc, hc, hp⟩

theorem ppuMemoriesKept_of {t s : State} (h : t.ppu = s.ppu) : PpuMemoriesKept t s := by
  rw [PpuMemoriesKept, h]
  exact ⟨rfl, rfl, rfl, rfl, rfl, rfl, rfl⟩

theorem memoryKept_of_same {t s : State} (h : SameDevices t s) : MemoryKept t s :=
  memoryKept_of (by rw [h.1]) h.2.1 (ppuMemoriesKept_of h.2.2.1)

theorem nothingStored_of {t s : State} (h : SameDevices t s) : NothingStored t s := ⟨h, memoryKept_of_same h⟩

/-! ### Writes -/

/-- A write leaves the CPU and the parameters alone. -/
theorem memWrite_frame (a : Word) (v : Byte) (s : State) :
    (memWrite a v s).cpu = s.cpu ∧ (memWrite a v s).config = s.config := by
  unfold memWrite
  split
  · exact ⟨rfl, rfl⟩
  · split
    · exact ⟨rfl, rfl⟩
    · split
      · exact ⟨(ppuPortWrite_frame _ v s).1, (ppuPortWrite_frame _ v s).2.2⟩
      · split
        · exact ⟨rfl, rfl⟩
        · split
          · cases controllerOf a <;> exact ⟨rfl, rfl⟩
          · exact ⟨rfl, rfl⟩

@[simp] theorem memWrite_cpu (a : Word) (v : Byte) (s : State) : (memWrite a v s).cpu = s.cpu := (memWrite_frame a v s).1
@[simp] theorem memWrite_config (a : Word) (v : Byte) (s : State) : (memWrite a v s).config = s.config :=
  (memWrite_frame a v s).2

/-- The CPU is not seen by a write. -/
theorem memWrite_withCpu (a : Word) (v : Byte) (c : Cpu) (s : State) :
    memWrite a v { s with cpu := c } = { memWrite a v s with cpu := c } := by
  rcases h : cartCpuWrite s.config.prgWrite s.cart a v with _ | k
  · by_cases h1 : a.toNat ≤ 0x1FFF
    · simp only [memWrite, h, h1, if_true, ramWrite]
    · by_cases h2 : 0x2000 ≤ a.toNat ∧ a.toNat ≤ 0x3FFF
      · simp only [memWrite, h, h1, if_false, if_pos h2]
        exact ppuPortWrite_withCpu _ v c s
      · by_cases h4 : a.toNat = 0x4014
        · simp only [memWrite, h, h1, if_false, if_neg h2, if_pos h4, dmaStart]
        · by_cases h3 : 0x4016 ≤ a.toNat ∧ a.toNat ≤ 0x4017
          · simp only [memWrite, h, h1, if_false, if_neg h2, if_neg h4, if_pos h3]
            cases controllerOf a <;> rfl
          · simp only [memWrite, h, h1, if_false, if_neg h2, if_neg h4, if_neg h3]
  · simp only [memWrite, h]

/-- A RAM write: one byte of RAM and nothing else. -/
theorem memWrite_low {a : Word} (v : Byte) (s : State) (h : a.toNat ≤ 0x1FFF) :
    memWrite a v s = { s with bus := { s.bus with ram := Memory.write s.bus.ram (a.toNat % 2048) v } } := by
  unfold memWrite
  rw [cartCpuWrite_low (by omega)]
  simp [h, ramWrite, ramOffset_eq]

/-- From 0x8000 on only the cartridge takes a write. -/
theorem memWrite_high {a : Word} (v : Byte) (s : State) (h : 0x8000 ≤ a.toNat) :
    memWrite a v s = { s with cart := (cartCpuWrite s.config.prgWrite s.cart a v).or s.cart } := by
  unfold memWrite
  split
  · next c hc => rw [hc]; rfl
  · next hc =>
    rw [hc]
    simp [show ¬ a.toNat ≤ 0x1FFF by omega, show ¬ (0x2000 ≤ a.toNat ∧ a.toNat ≤ 0x3FFF) by omega,
      show ¬ (0x4016 ≤ a.toNat ∧ a.toNat ≤ 0x4017) by omega, show ¬ a.toNat = 0x4014 by omega]

/-- A write to a device leaves RAM and the PRG buffer alone. -/
theorem memWrite_device {a : Word} (v : Byte) (s : State) (h : isMemory a = false) :
    (memWrite a v s).bus.ram = s.bus.ram ∧
      ∀ b, cartCpuRead (memWrite a v s).cart b = cartCpuRead s.cart b := by
  simp only [isMemory, Bool.or_eq_false_iff, decide_eq_false_iff_not] at h
  have hw : ∀ (p : PpuAddr) (d : Byte),
      (ppuWrite p d s).bus.ram = s.bus.ram ∧ ∀ b, cartCpuRead (ppuWrite p d s).cart b = cartCpuRead s.cart b := by
    intro p d
    refine ⟨by rw [(ppuWrite_frame p d s).2.1], fun b => ?_⟩
    unfold ppuWrite
    split
    · next c hc =>
      cases hs : s.cart with
      | none => simp [hs, cartPpuWrite] at hc
      | some k =>
        simp only [hs, cartPpuWrite] at hc
        cases hm : ppuMapWrite k p with
        | none => simp [hm] at hc
        | some o =>
          simp only [hm, Option.map_some, Option.some.injEq] at hc
          subst hc
          rfl
    · split
      · rfl
      · split <;> rfl
  unfold memWrite
  rw [cartCpuWrite_low (by omega)]
  simp only [h.1, if_false]
  split
  · cases portOf a <;> first | exact ⟨rfl, fun _ => rfl⟩ | exact hw _ _
  · split
    · exact ⟨rfl, fun _ => rfl⟩
    · split
      · cases controllerOf a <;> exact ⟨rfl, fun _ => rfl⟩
      · exact ⟨rfl, fun _ => rfl⟩

/-- The PRG offset of an address as a number (R82). -/
theorem cpuMap_eq (c : Cartridge) {a : Word} (h : 0x8000 ≤ a.toNat) (hn : 1 ≤ c.nPrg) :
    cpuMap c a = some (a.toNat % (if c.nPrg = 1 then 16384 else 32768)) := by
  unfold cpuMap
  simp only [h, if_true]
  split
  · next h1 =>
    rw [BitVec.toNat_and]
    exact congrArg some (Nat.and_two_pow_sub_one_eq_mod a.toNat 14)
  · next h1 =>
    simp only [show 2 ≤ c.nPrg by omega, if_true]
    rw [BitVec.toNat_and]
    exact congrArg some (Nat.and_two_pow_sub_one_eq_mod a.toNat 15)

/-- With no PRG bank nothing is claimed. -/
theorem cpuMap_zero (c : Cartridge) (a : Word) (hn : ¬ 1 ≤ c.nPrg) : cpuMap c a = none := by
  unfold cpuMap
  split
  · simp [show ¬ c.nPrg = 1 by omega, show ¬ 2 ≤ c.nPrg by omega]
  · rfl

/-- What one write changes of memory: the spec lemma every storing instruction cites. -/
theorem memWrite_storedByte (ea : Word) (v : Byte) (s t : State) (hb : t.bus = (memWrite ea v s).bus)
    (hc : t.cart = (memWrite ea v s).cart) (hp : t.ppu = (memWrite ea v s).ppu) : StoredByte ea v t s := by
  have hk : ∀ a, peek a t = peek a (memWrite ea v s) := fun a => peek_congr a hb hc hp
  by_cases hlow : ea.toNat ≤ 0x1FFF
  · rw [memWrite_low v s hlow] at hk hp
    have low : ∀ a : Word, a.toNat ≤ 0x1FFF → peek a t =
        if a.toNat % 2048 = ea.toNat % 2048 then v else peek a s := by
      intro a ha
      rw [hk, peek_low _ ha, peek_low _ ha]
      exact Memory.read_write _ _ _ _
    have high : ∀ a : Word, 0x8000 ≤ a.toNat → peek a t = peek a s := by
      intro a ha
      rw [hk, peek_high _ ha, peek_high _ ha]
    refine ⟨fun a ha hs => ?_, fun _ a ha => ?_, fun h => absurd h (by omega), fun h => absurd h (by omega), fun _ => hp⟩
    · simp only [isMemory, Bool.or_eq_true, decide_eq_true_eq] at ha
      rcases ha with ha | ha
      · rw [low a ha, if_neg (fun e => hs (Or.inl ⟨ha, hlow, e⟩))]
      · exact high a ha
    · rcases ha with ha | ha
      · rw [low a ha.1, if_pos ha.2.2]
      · omega
  · by_cases hhigh : 0x8000 ≤ ea.toNat
    · rw [memWrite_high v s hhigh] at hk hp
      have low : ∀ a : Word, a.toNat ≤ 0x1FFF → peek a t = peek a s := by
        intro a ha
        rw [hk, peek_low _ ha, peek_low _ ha]
      have highW : prgWritable s → ∀ a : Word, 0x8000 ≤ a.toNat → peek a t =
          if a.toNat % prgSpan s = ea.toNat % prgSpan s then v else peek a s := by
        rintro ⟨c, hcart, hn, hmode⟩ a ha
        rw [hk, peek_high _ ha, peek_high _ ha]
        simp only [hcart, hmode, cartCpuWrite, cartCpuRead, cpuMap_eq c hhigh hn, cpuMap_eq c ha hn, prgSpan,
          Option.some_or, Option.map_some, Option.getD_some]
        have same : ∀ m : Memory, cpuMap { c with prg := m } a = cpuMap c a := fun _ => rfl
        rw [same, cpuMap_eq c ha hn]
        simp only [Option.map_some, Option.getD_some]
        exact Memory.read_write _ _ _ _
      have highN : ¬ prgWritable s → ∀ a : Word, 0x8000 ≤ a.toNat → peek a t = peek a s := by
        intro hw a ha
        rw [hk, peek_high _ ha, peek_high _ ha]
        cases hcart : s.cart with
        | none => rfl
        | some c =>
          by_cases hn : 1 ≤ c.nPrg
          · cases hmode : s.config.prgWrite with
            | writeThrough => exact absurd ⟨c, hcart, hn, hmode⟩ hw
            | ignore => simp [cartCpuWrite, cpuMap_eq c hhigh hn]
          · simp [cartCpuWrite, cpuMap_zero c ea hn]
      refine ⟨fun a ha hs => ?_, fun h => absurd h hlow, fun _ hw a ha => ?_, fun _ hw a ha => ?_, fun _ => hp⟩
      · simp only [isMemory, Bool.or_eq_true, decide_eq_true_eq] at ha
        rcases ha with ha | ha
        · exact low a ha
        · by_cases hw : prgWritable s
          · rw [highW hw a ha, if_neg (fun e => hs (Or.inr ⟨ha, hhigh, e⟩))]
          · exact highN hw a ha
      · rcases ha with ha | ha
        · omega
        · rw [highW hw a ha.1, if_pos ha.2.2]
      · simp only [isMemory, Bool.or_eq_true, decide_eq_true_eq] at ha
        rcases ha with ha | ha
        · exact low a ha
        · exact highN hw a ha
    · have hm : isMemory ea = false := by simp [isMemory, hlow, hhigh]
      have hd := memWrite_device v s hm
      have all : ∀ a, isMemory a = true → peek a t = peek a s := by
        intro a ha
        rw [hk]
        simp only [isMemory, Bool.or_eq_true, decide_eq_true_eq] at ha
        rcases ha with ha | ha
        · rw [peek_low _ ha, peek_low _ ha, hd.1]
        · rw [peek_high _ ha, peek_high _ ha, hd.2]
      exact ⟨fun a ha _ => all a ha, fun h => absurd h hlow, fun h => absurd h hhigh, fun h => absurd h hhigh,
        fun h => by rw [hm] at h; cases h⟩

/-- The same for a write after a read of the address (a read-modify-write): the read's side effects are not memory. -/
theorem memWrite_storedByte_after {ea : Word} {v : Byte} {s u t : State} (hb : t.bus = (memWrite ea v u).bus)
    (hc : t.cart = (memWrite ea v u).cart) (hp : t.ppu = (memWrite ea v u).ppu) (hr : u.bus.ram = s.bus.ram)
    (hk : u.cart = s.cart) (hg : u.config = s.config) (hm : isMemory ea = true → u = s) : StoredByte ea v t s := by
  obtain ⟨h1, h2, h3, h4, h5⟩ := memWrite_storedByte ea v u t hb hc hp
  have span : prgSpan u = prgSpan s := by rw [prgSpan, prgSpan, hk]
  have same : ∀ a b, SameByte u a b ↔ SameByte s a b := fun a b => by rw [SameByte, SameByte, span]
  have writable : prgWritable u ↔ prgWritable s := by rw [prgWritable, prgWritable, hk, hg]
  refine ⟨fun a ha hs => ?_, fun hl a ha => h2 hl a ((same a ea).mpr ha),
    fun hh hw a ha => h3 hh (writable.mpr hw) a ((same a ea).mpr ha), fun hh hw a ha => ?_, fun h => ?_⟩
  · rw [h1 a ha (fun h => hs ((same a ea).mp h)), peek_memory_congr ha hr hk]
  · rw [h4 hh (fun h => hw (writable.mp h)) a ha, peek_memory_congr ha hr hk]
  · rw [h5 h, hm h]

/-! ### The PPU ports -/

/-- The port number of a CPU address is its low three bits (R75). -/
theorem portOf_eq (a : Word) :
    portOf a =
      match a.toNat % 8 with
      | 0 => .ctrl
      | 1 => .mask
      | 2 => .status
      | 3 => .oamAddr
      | 4 => .oamData
      | 5 => .scroll
      | 6 => .addr
      | _ => .data := by
  have h : (a &&& 0x0007#16).toNat = a.toNat % 8 := by
    rw [BitVec.toNat_and]
    exact Nat.and_two_pow_sub_one_eq_mod a.toNat 3
  simp only [portOf, h]
  first | done | rfl

/-- A read of a PPU port, at any of its mirrors (R71, R75). -/
theorem memRead_port {a : Word} (s : State) (h1 : 0x2000 ≤ a.toNat) (h2 : a.toNat ≤ 0x3FFF) :
    memRead a s = ppuPortRead (portOf a) s := by
  unfold memRead
  rw [cartCpuRead_low (by omega)]
  simp only
  rw [if_neg (by omega), if_pos ⟨h1, h2⟩]

/-- A write to a PPU port, at any of its mirrors (R72, R75). -/
theorem memWrite_port {a : Word} (v : Byte) (s : State) (h1 : 0x2000 ≤ a.toNat) (h2 : a.toNat ≤ 0x3FFF) :
    memWrite a v s = ppuPortWrite (portOf a) v s := by
  unfold memWrite
  rw [cartCpuWrite_low (by omega)]
  simp only
  rw [if_neg (by omega), if_pos ⟨h1, h2⟩]

end Sys2Proof.Machine
end

