-- ==== Sys2Proof/Laws/Flags.lean ====
section
/-! SUPPORT. The laws of the status register's flags: reading a flag after writing one, and each flag computation's flags one by
one, in the numbers the statements use. -/

namespace Sys2Proof.Machine

open Sys2Proof.Claim

/-- A flag read after a flag is written. -/
@[simp] theorem getFlag_setFlag (f g : Flag) (on : Bool) (p : Byte) :
    getFlag f (setFlag g on p) = if f = g then on else getFlag f p := by
  cases f <;> cases g <;> cases on <;> simp [getFlag, setFlag, Flag.mask, Flag.bit]

/-- Writing a flag to the value it has changes nothing. -/
theorem setFlag_getFlag (f : Flag) (p : Byte) : setFlag f (getFlag f p) p = p := by
  apply BitVec.eq_of_getLsbD_eq
  intro k hk
  have key : ∀ g : Flag, getFlag g (setFlag f (getFlag f p) p) = getFlag g p := by
    intro g
    rw [getFlag_setFlag]
    split
    · next h => rw [h]
    · rfl
  rcases (by omega : k = 0 ∨ k = 1 ∨ k = 2 ∨ k = 3 ∨ k = 4 ∨ k = 5 ∨ k = 6 ∨ k = 7) with
    h | h | h | h | h | h | h | h <;> subst h
  · exact key .c
  · exact key .z
  · exact key .i
  · exact key .d
  · exact key .b
  · exact key .u
  · exact key .v
  · exact key .n

/-- Status bytes with equal flags are equal. -/
theorem status_ext {p q : Byte} (h : ∀ f, getFlag f p = getFlag f q) : p = q := by
  apply BitVec.eq_of_getLsbD_eq
  intro k hk
  rcases (by omega : k = 0 ∨ k = 1 ∨ k = 2 ∨ k = 3 ∨ k = 4 ∨ k = 5 ∨ k = 6 ∨ k = 7) with
    h' | h' | h' | h' | h' | h' | h' | h' <;> subst h'
  · exact h .c
  · exact h .z
  · exact h .i
  · exact h .d
  · exact h .b
  · exact h .u
  · exact h .v
  · exact h .n

/-- Bit 7 of a byte as a comparison. -/
theorem getLsbD_seven (v : Byte) : v.getLsbD 7 = sign v := by
  have h : v.getLsbD 7 = v.msb := by simp [BitVec.msb_eq_getLsbD_last]
  rw [h, BitVec.msb_eq_decide]
  simp [sign]

/-- Zero as a number. -/
theorem decide_eq_zero (v : Byte) : decide (v = 0x00#8) = decide (v.toNat = 0) := by
  congr 1
  exact propext ⟨fun h => by simp [h], fun h => BitVec.eq_of_toNat_eq (by simpa using h)⟩

/-- The flags `SetZN` leaves. -/
theorem getFlag_setZN (f : Flag) (v p : Byte) :
    getFlag f (setZN v p) = if f = .n then sign v else if f = .z then decide (v.toNat = 0) else getFlag f p := by
  simp only [setZN, getFlag_setFlag, getLsbD_seven, decide_eq_zero]

/-- The flags a shift or rotate leaves. -/
theorem getFlag_shiftFlags (f : Flag) (out : Bool) (r p : Byte) :
    getFlag f (shiftFlags out r p) =
      if f = .n then sign r else if f = .z then decide (r.toNat = 0) else if f = .c then out else getFlag f p := by
  simp only [shiftFlags, getFlag_setZN, getFlag_setFlag]

/-- The flags a comparison leaves. -/
theorem getFlag_compareFlags (f : Flag) (reg m p : Byte) :
    getFlag f (compareFlags reg m p) =
      if f = .n then sign (reg - m) else if f = .z then decide ((reg - m).toNat = 0)
      else if f = .c then decide (m.toNat ≤ reg.toNat) else getFlag f p := by
  simp only [compareFlags, getFlag_setFlag, getLsbD_seven, decide_eq_zero]

/-- The flags BIT leaves. -/
theorem getFlag_bitFlags (f : Flag) (a m p : Byte) :
    getFlag f (bitFlags a m p) =
      if f = .v then m.getLsbD 6 else if f = .n then sign m else if f = .z then decide ((a &&& m).toNat = 0)
      else getFlag f p := by
  simp only [bitFlags, getFlag_setFlag, getLsbD_seven, decide_eq_zero]

/-- Bit 6 of a byte as a number. -/
theorem getLsbD_six (m : Byte) : m.getLsbD 6 = decide (64 ≤ m.toNat % 128) := by
  rw [BitVec.getLsbD, Nat.testBit_eq_decide_div_mod_eq]
  have := m.isLt
  congr 1
  apply propext
  constructor <;> intro h <;> omega

/-- The carry as a number. -/
theorem carryIn_eq (p : Byte) : carryIn p = bit (getFlag .c p) := by
  unfold carryIn bit
  cases getFlag .c p <;> rfl

/-- The sign of an exclusive or. -/
theorem getLsbD_seven_xor (a b : Byte) : (a ^^^ b).getLsbD 7 = decide (sign a ≠ sign b) := by
  rw [BitVec.getLsbD_xor, getLsbD_seven, getLsbD_seven]
  cases sign a <;> cases sign b <;> rfl

/-- The flags an addition leaves: carry out of the sum, signed overflow, zero, sign. -/
theorem getFlag_addFlags (f : Flag) (a m p : Byte) :
    getFlag f (addFlags a m p) =
      if f = .n then sign (addResult a m p)
      else if f = .v then (decide (sign a = sign m) && decide (sign (addResult a m p) ≠ sign a))
      else if f = .z then decide ((addResult a m p).toNat = 0)
      else if f = .c then decide (0xFF < addSum a m p) else getFlag f p := by
  have hv : (~~~(a ^^^ m) &&& (a ^^^ addResult a m p)).getLsbD 7 =
      (decide (sign a = sign m) && decide (sign (addResult a m p) ≠ sign a)) := by
    rw [BitVec.getLsbD_and, getLsbD_seven_xor]
    simp only [BitVec.getLsbD_not, getLsbD_seven_xor]
    cases sign a <;> cases sign m <;> cases sign (addResult a m p) <;> rfl
  simp only [addFlags, getFlag_setFlag, getLsbD_seven, decide_eq_zero, hv, gt_iff_lt]

/-- The flags a subtraction leaves. -/
theorem getFlag_subFlags (f : Flag) (a m p : Byte) :
    getFlag f (subFlags a m p) =
      if f = .n then sign (addResult a (subOperand m) p)
      else if f = .v then
        (decide (sign (addResult a (subOperand m) p) ≠ sign a) &&
          decide (sign (addResult a (subOperand m) p) ≠ sign (subOperand m)))
      else if f = .z then decide ((addResult a (subOperand m) p).toNat = 0)
      else if f = .c then decide (0xFF < addSum a (subOperand m) p) else getFlag f p := by
  have hv : ((addResult a (subOperand m) p ^^^ a) &&& (addResult a (subOperand m) p ^^^ subOperand m)).getLsbD 7 =
      (decide (sign (addResult a (subOperand m) p) ≠ sign a) &&
        decide (sign (addResult a (subOperand m) p) ≠ sign (subOperand m))) := by
    rw [BitVec.getLsbD_and, getLsbD_seven_xor, getLsbD_seven_xor]
  simp only [subFlags, getFlag_setFlag, getLsbD_seven, decide_eq_zero, hv, gt_iff_lt]

/-- The complement of a byte as a number. -/
theorem subOperand_toNat (m : Byte) : (subOperand m).toNat = 255 - m.toNat := by
  have h : subOperand m = ~~~m := by
    apply BitVec.eq_of_getLsbD_eq
    intro k hk
    rcases (by omega : k = 0 ∨ k = 1 ∨ k = 2 ∨ k = 3 ∨ k = 4 ∨ k = 5 ∨ k = 6 ∨ k = 7) with
      h | h | h | h | h | h | h | h <;> subst h <;> simp [subOperand]
  rw [h, BitVec.toNat_not]

/-- The borrow rule of R202: carry out of the complemented sum is "no borrow". -/
theorem subCarry (a m p : Byte) :
    decide (0xFF < addSum a (subOperand m) p) = decide (m.toNat + (1 - bit (getFlag .c p)) ≤ a.toNat) := by
  rw [addSum, subOperand_toNat, carryIn_eq]
  have := m.isLt
  have hb : bit (getFlag .c p) ≤ 1 := by unfold bit; split <;> omega
  congr 1
  apply propext
  constructor <;> intro h <;> omega

/-- The flags of the copy of `P` that PHP and BRK push. -/
theorem pushedStatus_eq (p : Byte) : pushedStatus p = p ||| 0x30#8 := by
  unfold pushedStatus
  rw [BitVec.or_assoc]
  rfl

/-- Forcing U, as a mask. -/
theorem setFlag_unused (p : Byte) : setFlag .u true p = p ||| 0x20#8 := rfl

/-- The status an interrupt entry leaves, as masks. -/
theorem entryStatus_eq (p : Byte) :
    setFlag .i true (setFlag .u true (setFlag .b false p)) = (p &&& 0xEF#8) ||| 0x24#8 := by
  show ((p &&& ~~~(1#8 <<< 4)) ||| (1#8 <<< 5)) ||| (1#8 <<< 2) = _
  rw [BitVec.or_assoc]
  rfl

/-! ### Results in numbers -/

theorem addResult_eq (a m p : Byte) : addResult a m p = BitVec.ofNat 8 (a.toNat + m.toNat + bit (getFlag .c p)) := by
  rw [addResult, addSum, carryIn_eq]

theorem aslResult_eq (m : Byte) : aslResult m = BitVec.ofNat 8 (2 * m.toNat) := by
  apply BitVec.eq_of_toNat_eq
  simp only [aslResult, BitVec.toNat_shiftLeft, BitVec.toNat_ofNat, Nat.shiftLeft_eq]
  omega

theorem lsrResult_eq (m : Byte) : lsrResult m = BitVec.ofNat 8 (m.toNat / 2) := by
  apply BitVec.eq_of_toNat_eq
  have := m.isLt
  simp only [lsrResult, BitVec.toNat_ushiftRight, BitVec.toNat_ofNat, Nat.shiftRight_eq_div_pow]
  omega

theorem rolResult_eq (m p : Byte) : rolResult m p = BitVec.ofNat 8 (2 * m.toNat + bit (getFlag .c p)) := by
  apply BitVec.eq_of_getLsbD_eq
  intro k hk
  unfold rolResult bit
  cases getFlag .c p
  · have h := aslResult_eq m
    simp only [aslResult] at h
    simp [h]
  · have h : BitVec.ofNat 8 (2 * m.toNat + 1) = (m <<< 1) ||| 1#8 := by
      apply BitVec.eq_of_toNat_eq
      rw [BitVec.toNat_or, BitVec.toNat_ofNat, BitVec.toNat_shiftLeft, Nat.shiftLeft_eq]
      have e : m.toNat * 2 ^ 1 % 2 ^ 8 = 2 * (m.toNat % 128) := by omega
      rw [e]
      have := Nat.two_pow_add_eq_or_of_lt (i := 1) (b := 1) (by omega) (m.toNat % 128)
      simp only [pow_one] at this
      show _ = 2 * (m.toNat % 128) ||| 1
      rw [← this]
      omega
    simp [h]

theorem rorResult_eq (m p : Byte) : rorResult m p = BitVec.ofNat 8 (128 * bit (getFlag .c p) + m.toNat / 2) := by
  unfold rorResult bit
  have h := lsrResult_eq m
  simp only [lsrResult] at h
  cases getFlag .c p
  · simp [h]
  · have hm := m.isLt
    apply BitVec.eq_of_toNat_eq
    simp only [if_true, BitVec.toNat_or, BitVec.toNat_ushiftRight, Nat.shiftRight_eq_div_pow, BitVec.toNat_ofNat, pow_one]
    have := Nat.two_pow_add_eq_or_of_lt (i := 7) (b := m.toNat / 2) (by omega) 1
    simp only [mul_one] at this
    show 128 ||| _ = _
    rw [show (128 : Nat) = 2 ^ 7 from rfl, ← this]
    omega

theorem getLsbD_zero_eq (m : Byte) : m.getLsbD 0 = decide (m.toNat % 2 = 1) := by
  rw [BitVec.getLsbD, Nat.testBit_eq_decide_div_mod_eq]
  simp

end Sys2Proof.Machine
end

