-- ==== Sys2Proof/Laws/Stack.lean ====
section
/-! SUPPORT. The laws of the stack, of the vectors, of taking an interrupt and of returning from one: each operation as one equation
over the state. -/

namespace Sys2Proof.Machine

open Sys2Proof.Claim

/-! ### Bytes and words -/

/-- The value of two bytes as a word. -/
theorem append_toNat (hi lo : Byte) : (hi ++ lo : Word).toNat = hi.toNat * 256 + lo.toNat := by
  have h : (hi ++ lo : Word).toNat = hi.toNat <<< 8 ||| lo.toNat := BitVec.toNat_append hi lo
  rw [h, Nat.shiftLeft_eq, Nat.mul_comm, ← Nat.two_pow_add_eq_or_of_lt lo.isLt, Nat.mul_comm]

theorem lowByte_toNat (w : Word) : (lowByte w).toNat = w.toNat % 256 := by simp [lowByte]

theorem highByte_toNat (w : Word) : (highByte w).toNat = w.toNat / 256 := by
  have := w.isLt
  simp only [highByte, BitVec.toNat_setWidth, BitVec.toNat_ushiftRight, Nat.shiftRight_eq_div_pow]
  omega

@[simp] theorem lowByte_wordOf (lo hi : Byte) : lowByte (wordOf lo hi) = lo := by
  apply BitVec.eq_of_toNat_eq
  have := lo.isLt
  rw [lowByte_toNat, wordOf, append_toNat]
  omega

@[simp] theorem highByte_wordOf (lo hi : Byte) : highByte (wordOf lo hi) = hi := by
  apply BitVec.eq_of_toNat_eq
  have := lo.isLt
  rw [highByte_toNat, wordOf, append_toNat]
  omega

/-- A word is its two bytes. -/
theorem word_of_bytes (w : Word) : highByte w ++ lowByte w = w := by
  apply BitVec.eq_of_toNat_eq
  rw [append_toNat, lowByte_toNat, highByte_toNat]
  omega

/-! ### The stack page -/

/-- The stack address of R21 is in page 0x01. -/
theorem stackAddress_eq (x : Byte) : stackAddress x = slot x := by
  apply BitVec.eq_of_toNat_eq
  have := x.isLt
  rw [stackAddress, slot, append_toNat, BitVec.toNat_or, BitVec.toNat_setWidth, Nat.mod_eq_of_lt (by omega)]
  exact (Nat.two_pow_add_eq_or_of_lt x.isLt 1).symm

theorem slot_toNat (x : Byte) : (slot x).toNat = 256 + x.toNat := by
  unfold slot
  rw [append_toNat]
  rfl

theorem slot_low (x : Byte) : (slot x).toNat ≤ 0x1FFF := by
  rw [slot_toNat]; have := x.isLt; omega

/-- A stack byte is a byte of RAM. -/
theorem peek_slot (x : Byte) (s : State) : peek (slot x) s = Memory.read s.bus.ram (256 + x.toNat) := by
  rw [peek_low s (slot_low x), slot_toNat]
  have := x.isLt
  rw [Nat.mod_eq_of_lt (by omega)]

/-- `Push(v)` (R171). -/
theorem push_eq (v : Byte) (s : State) :
    push v s =
      { s with
        cpu := { s.cpu with s := s.cpu.s - 1#8 }
        bus := { s.bus with ram := Memory.write s.bus.ram (256 + s.cpu.s.toNat) v } } := by
  unfold push
  rw [stackAddress_eq, memWrite_low v s (slot_low _), slot_toNat]
  have := s.cpu.s.isLt
  rw [Nat.mod_eq_of_lt (by omega)]
  rfl

/-- `Pull()` (R171). -/
theorem pull_eq (s : State) : pull s = (peek (slot (s.cpu.s + 1#8)) s, s.setS (s.cpu.s + 1#8)) := by
  unfold pull
  rw [stackAddress_eq, memRead_low _ (slot_low _), peek_low _ (slot_low _)]
  rfl

/-- RAM with a word on the stack at `x`: the high byte at `x`, the low byte below it. -/
def wordOnStack (m : Memory) (x : Byte) (w : Word) : Memory :=
  Memory.write (Memory.write m (256 + x.toNat) (highByte w)) (256 + (x - 1#8).toNat) (lowByte w)

/-- RAM with a word and a status byte on the stack at `x`. -/
def entryOnStack (m : Memory) (x : Byte) (w : Word) (p : Byte) : Memory :=
  Memory.write (wordOnStack m x w) (256 + (x - 2#8).toNat) p

theorem pushWord_eq (w : Word) (s : State) :
    pushWord w s =
      { s with
        cpu := { s.cpu with s := s.cpu.s - 2#8 }
        bus := { s.bus with ram := wordOnStack s.bus.ram s.cpu.s w } } := by
  unfold pushWord wordOnStack
  rw [push_eq, push_eq]
  have h : s.cpu.s - 1#8 - 1#8 = s.cpu.s - 2#8 := by bv_omega
  simp only [h]

theorem pullWord_eq (s : State) : pullWord s = (stackWord (s.cpu.s + 1#8) s, s.setS (s.cpu.s + 2#8)) := by
  unfold pullWord stackWord wordOf
  rw [pull_eq]
  simp only [pull_eq, State.setS_s]
  have h : s.cpu.s + 1#8 + 1#8 = s.cpu.s + 2#8 := by bv_omega
  rw [h, peek_congr (s := s) _ (State.setS_bus _ _) (State.setS_cart _ _) (State.setS_ppu _ _), State.setS_setS]

/-! ### The vectors -/

/-- A word read at two addresses of PRG space. -/
theorem memReadWord_high {a b : Word} (s : State) (ha : 0x8000 ≤ a.toNat) (hb : 0x8000 ≤ b.toNat) :
    memReadWord a b s = (peek b s ++ peek a s, s) := by
  simp only [memReadWord, wordOf, memRead_high s ha, memRead_high s hb, peek_high s ha, peek_high s hb]

/-- Loading PC from a vector in PRG space. -/
theorem loadVector_eq {vec : Word} (s : State) (ha : 0x8000 ≤ vec.toNat) (hb : 0x8000 ≤ (vec + 1#16).toNat) :
    loadVector vec s = s.setPc (vectorWord vec s) := by
  unfold loadVector vectorWord
  rw [memReadWord_high s ha hb]

/-- A vector word depends on the cartridge only. -/
theorem vectorWord_congr {vec : Word} {s t : State} (ha : 0x8000 ≤ vec.toNat) (hb : 0x8000 ≤ (vec + 1#16).toNat)
    (h : t.cart = s.cart) : vectorWord vec t = vectorWord vec s := by
  unfold vectorWord
  rw [peek_high t ha, peek_high t hb, peek_high s ha, peek_high s hb, h]

/-! ### What stack stores change -/

/-- Only the given stack bytes differ. -/
theorem stackStored_of {slots : List Byte} {t s : State}
    (hr : ∀ k, (∀ x ∈ slots, k ≠ 256 + x.toNat) → Memory.read t.bus.ram k = Memory.read s.bus.ram k)
    (hb : t.bus = { s.bus with ram := t.bus.ram }) (hc : t.cart = s.cart) (hp : t.ppu = s.ppu)
    (hg : t.config = s.config) : StackStored slots t s := by
  refine ⟨fun a ha hs => ?_, hb, hc, hp, hg⟩
  simp only [isMemory, Bool.or_eq_true, decide_eq_true_eq] at ha
  rcases ha with ha | ha
  · rw [peek_low t ha, peek_low s ha]
    apply hr
    intro x hx e
    have := x.isLt
    exact hs x hx (Or.inl ⟨ha, slot_low x, by rw [slot_toNat, e]; omega⟩)
  · rw [peek_high t ha, peek_high s ha, hc]

/-- Three stack bytes below one another are different bytes. -/
theorem slots_distinct (x : Byte) :
    (x - 1#8).toNat ≠ x.toNat ∧ (x - 2#8).toNat ≠ x.toNat ∧ (x - 2#8).toNat ≠ (x - 1#8).toNat := by
  refine ⟨?_, ?_, ?_⟩ <;> bv_omega

/-! ### Taking an interrupt and returning from one -/

/-- Three pushes: a word, then a byte. -/
theorem three_pushes (w : Word) (p : Byte) (s : State) :
    push p (pushWord w s) =
      { s with
        cpu := { s.cpu with s := s.cpu.s - 3#8 }
        bus := { s.bus with ram := entryOnStack s.bus.ram s.cpu.s w p } } := by
  rw [pushWord_eq, push_eq]
  have h : s.cpu.s - 2#8 - 1#8 = s.cpu.s - 3#8 := by bv_omega
  simp only [h, entryOnStack]

/-- The bytes of `wordOnStack`. -/
theorem read_wordOnStack (m : Memory) (x : Byte) (w : Word) :
    Memory.read (wordOnStack m x w) (256 + x.toNat) = highByte w ∧
      Memory.read (wordOnStack m x w) (256 + (x - 1#8).toNat) = lowByte w ∧
      ∀ k, k ≠ 256 + x.toNat → k ≠ 256 + (x - 1#8).toNat → Memory.read (wordOnStack m x w) k = Memory.read m k := by
  obtain ⟨h1, h2, h3⟩ := slots_distinct x
  refine ⟨?_, ?_, fun k hk1 hk2 => ?_⟩
  · rw [wordOnStack, Memory.read_write_of_ne _ _ (by omega), Memory.read_write_self]
  · rw [wordOnStack, Memory.read_write_self]
  · rw [wordOnStack, Memory.read_write_of_ne _ _ hk2, Memory.read_write_of_ne _ _ hk1]

/-- The bytes of `entryOnStack`. -/
theorem read_entryOnStack (m : Memory) (x : Byte) (w : Word) (p : Byte) :
    Memory.read (entryOnStack m x w p) (256 + x.toNat) = highByte w ∧
      Memory.read (entryOnStack m x w p) (256 + (x - 1#8).toNat) = lowByte w ∧
      Memory.read (entryOnStack m x w p) (256 + (x - 2#8).toNat) = p ∧
      ∀ k, k ≠ 256 + x.toNat → k ≠ 256 + (x - 1#8).toNat → k ≠ 256 + (x - 2#8).toNat →
        Memory.read (entryOnStack m x w p) k = Memory.read m k := by
  obtain ⟨h1, h2, h3⟩ := slots_distinct x
  obtain ⟨e1, e2, e3⟩ := read_wordOnStack m x w
  refine ⟨?_, ?_, ?_, fun k hk1 hk2 hk3 => ?_⟩
  · rw [entryOnStack, Memory.read_write_of_ne _ _ (by omega), e1]
  · rw [entryOnStack, Memory.read_write_of_ne _ _ (by omega), e2]
  · rw [entryOnStack, Memory.read_write_self]
  · rw [entryOnStack, Memory.read_write_of_ne _ _ hk3, e3 k hk1 hk2]

/-- A word pushed is seen through the stack bytes, and only they change. -/
theorem wordOnStack_seen {w : Word} {t s : State} (hr : t.bus.ram = wordOnStack s.bus.ram s.cpu.s w)
    (hb : t.bus = { s.bus with ram := t.bus.ram }) (hc : t.cart = s.cart) (hp : t.ppu = s.ppu)
    (hg : t.config = s.config) :
    peek (slot s.cpu.s) t ++ peek (slot (s.cpu.s - 1#8)) t = w ∧ StackStored [s.cpu.s, s.cpu.s - 1#8] t s := by
  obtain ⟨h1, h2, h3⟩ := read_wordOnStack s.bus.ram s.cpu.s w
  refine ⟨?_, stackStored_of (fun k hk => ?_) hb hc hp hg⟩
  · rw [peek_slot, peek_slot, hr, h1, h2, word_of_bytes]
  · simp only [List.mem_cons, List.not_mem_nil, or_false, forall_eq_or_imp, forall_eq] at hk
    rw [hr]
    exact h3 k hk.1 hk.2

/-- A word and a byte pushed are seen through the stack bytes, and only they change. -/
theorem entryOnStack_seen {w : Word} {p : Byte} {t s : State} (hr : t.bus.ram = entryOnStack s.bus.ram s.cpu.s w p)
    (hb : t.bus = { s.bus with ram := t.bus.ram }) (hc : t.cart = s.cart) (hp : t.ppu = s.ppu)
    (hg : t.config = s.config) :
    peek (slot s.cpu.s) t ++ peek (slot (s.cpu.s - 1#8)) t = w ∧ peek (slot (s.cpu.s - 2#8)) t = p ∧
      StackStored [s.cpu.s, s.cpu.s - 1#8, s.cpu.s - 2#8] t s := by
  obtain ⟨h1, h2, h3, h4⟩ := read_entryOnStack s.bus.ram s.cpu.s w p
  refine ⟨?_, ?_, stackStored_of (fun k hk => ?_) hb hc hp hg⟩
  · rw [peek_slot, peek_slot, hr, h1, h2, word_of_bytes]
  · rw [peek_slot, hr, h3]
  · simp only [List.mem_cons, List.not_mem_nil, or_false, forall_eq_or_imp, forall_eq] at hk
    rw [hr]
    exact h4 k hk.1 hk.2.1 hk.2.2

/-- The spec lemma of an interrupt entry through a vector in PRG space (R330). -/
theorem interruptEntry_spec {vec : Word} (n : Nat) (s : State) (ha : 0x8000 ≤ vec.toNat)
    (hb : 0x8000 ≤ (vec + 1#16).toNat) :
    interruptEntry vec n s =
      { s with
        cpu :=
          { s.cpu with
            s := s.cpu.s - 3#8, p := (s.cpu.p &&& 0xEF#8) ||| 0x24#8, pc := vectorWord vec s, cycles := n }
        bus :=
          { s.bus with ram := entryOnStack s.bus.ram s.cpu.s s.cpu.pc ((s.cpu.p &&& 0xEF#8) ||| 0x24#8) } } := by
  unfold interruptEntry
  simp only
  rw [loadVector_eq _ ha hb, push_eq, pushWord_eq]
  have h : s.cpu.s - 2#8 - 1#8 = s.cpu.s - 3#8 := by bv_omega
  have hv : ∀ c b p g, vectorWord vec ⟨c, b, s.cart, p, g⟩ = vectorWord vec s :=
    fun _ _ _ _ => vectorWord_congr ha hb rfl
  simp only [State.setP, State.setPc, State.setCycles, entryStatus_eq, entryOnStack, h, hv]

/-- The spec lemma of BRK's entry (R256). -/
theorem softwareInterrupt_spec (s : State) :
    softwareInterrupt s =
      { s with
        cpu :=
          { s.cpu with s := s.cpu.s - 3#8, p := setFlag .i true s.cpu.p, pc := vectorWord 0xFFFE#16 s }
        bus := { s.bus with ram := entryOnStack s.bus.ram s.cpu.s (s.cpu.pc + 1#16) (pushedStatus s.cpu.p) } } := by
  have hl : 0x8000 ≤ irqVector.toNat := by decide
  have hh : 0x8000 ≤ (irqVector + 1#16).toNat := by decide
  unfold softwareInterrupt
  simp only
  rw [loadVector_eq _ hl hh]
  have h : vectorWord irqVector
      ((push (pushedStatus (pushWord (s.cpu.pc + 1#16) (s.setPc (s.cpu.pc + 1#16))).cpu.p)
        (pushWord (s.cpu.pc + 1#16) (s.setPc (s.cpu.pc + 1#16)))).setP
          (setFlag .i true (push (pushedStatus (pushWord (s.cpu.pc + 1#16) (s.setPc (s.cpu.pc + 1#16))).cpu.p)
        (pushWord (s.cpu.pc + 1#16) (s.setPc (s.cpu.pc + 1#16)))).cpu.p)) = vectorWord 0xFFFE#16 s := by
    rw [three_pushes]
    exact vectorWord_congr hl hh rfl
  rw [h, three_pushes]
  simp only [State.setP, State.setPc, pushWord_eq]

/-- The spec lemma of RTI's return (R259), before the final forcing of U. -/
theorem returnFromInterrupt_spec (s : State) :
    returnFromInterrupt s =
      { s with
        cpu :=
          { s.cpu with
            s := s.cpu.s + 3#8, p := peek (slot (s.cpu.s + 1#8)) s &&& ~~~0x10#8 &&& ~~~0x20#8
            pc := stackWord (s.cpu.s + 2#8) s } } := by
  unfold returnFromInterrupt
  simp only [pull_eq, pullWord_eq]
  have h1 : s.cpu.s + 1#8 + 1#8 = s.cpu.s + 2#8 := by bv_omega
  have h2 : s.cpu.s + 1#8 + 2#8 = s.cpu.s + 3#8 := by bv_omega
  simp only [State.setP_s, State.setS_s, h1, h2, stackWord]
  have hk : ∀ (x v w : Byte), peek (slot x) ((s.setS v).setP w) = peek (slot x) s := fun _ _ _ => peek_congr _ rfl rfl rfl
  simp only [hk]
  rfl

theorem nmi_spec (s : State) : nmi s = interruptEntry 0xFFFA#16 8 s := rfl

/-- An entry meets its statement (R330). -/
theorem entered_interruptEntry {vec : Word} (n : Nat) (s : State) (ha : 0x8000 ≤ vec.toNat)
    (hb : 0x8000 ≤ (vec + 1#16).toNat) : Entered vec n (interruptEntry vec n s) s := by
  rw [interruptEntry_spec n s ha hb]
  exact ⟨rfl, entryOnStack_seen rfl rfl rfl rfl rfl⟩

end Sys2Proof.Machine
end

