-- ==== Sys2Proof/Laws/Exec.lean ====
section
/-! SUPPORT. The laws of one instruction: the addressing-mode routines and `fetch()` as equations, and the shape of an instruction
for each kind of operation. -/

namespace Sys2Proof.Machine

open Sys2Proof.Claim

/-! ### Addresses -/

theorem andFF00_toNat (w : Word) : (w &&& 0xFF00#16).toNat = w.toNat / 256 * 256 := by
  have h : w &&& 0xFF00#16 = (w >>> 8) <<< 8 := by
    apply BitVec.eq_of_getLsbD_eq
    intro k hk
    interval_cases k <;> simp
  have := w.isLt
  rw [h, BitVec.toNat_shiftLeft, BitVec.toNat_ushiftRight, Nat.shiftLeft_eq, Nat.shiftRight_eq_div_pow]
  omega

/-- The page test of R164 as a comparison of high bytes. -/
theorem pageCrossed_eq (base target : Word) : pageCrossed base target = decide (page target ≠ page base) := by
  unfold pageCrossed page
  congr 1
  apply propext
  rw [not_iff_not]
  constructor
  · intro h
    have := congrArg BitVec.toNat h
    rw [andFF00_toNat, andFF00_toNat] at this
    omega
  · intro h
    apply BitVec.eq_of_toNat_eq
    rw [andFF00_toNat, andFF00_toNat, h]

theorem setWidth16_toNat (z : Byte) : (z.setWidth 16 : Word).toNat = z.toNat := by
  have := z.isLt
  rw [BitVec.toNat_setWidth]
  omega

/-- Two bytes of page 0x00 read as a pointer: RAM, with no side effect (R166, R167). -/
theorem memReadWord_zeroPage (z : Byte) (s : State) :
    memReadWord (z.setWidth 16) ((z + 1#8).setWidth 16) s = (zeroPagePointer z s, s) := by
  have read : ∀ y : Byte, memRead (y.setWidth 16) s = (zeroPage y s, s) := by
    intro y
    have := y.isLt
    rw [memRead_low s (by rw [setWidth16_toNat]; omega), setWidth16_toNat, Nat.mod_eq_of_lt (by omega)]
    rfl
  simp only [memReadWord, wordOf, read, zeroPagePointer]

/-- The operand is one an operation routine can acquire or store to. -/
def isData (o : Operand) : Bool :=
  match o with
  | .rel _ | .ind _ => false
  | .imp | .imm _ | .zp0 _ | .zpx _ | .zpy _ | .abs _ | .abx _ | .aby _ | .izx _ | .izy _ => true

/-- What the `fetched` latch holds after the mode routine: A in mode IMP (R155), else what it held. -/
def latched (o : Operand) (s : State) : Byte :=
  match o with
  | .imp => s.cpu.a
  | .imm _ | .zp0 _ | .zpx _ | .zpy _ | .rel _ | .abs _ | .abx _ | .aby _ | .ind _ | .izx _ | .izy _ => s.cpu.fetched

/-- The mode routines (R155 to R164, R166, R167): the latches, the page test, no side effect. -/
theorem addressing_eq {o : Operand} (h : isData o = true) (s : State) :
    addressing o s =
      (crossesPage o s, { s with cpu := { s.cpu with addrAbs := effectiveAddress o s, fetched := latched o s } }) := by
  cases o <;> first | rfl | exact absurd h Bool.false_ne_true | skip
  · simp only [addressing, indexedAddress, pageCrossed_eq]; rfl
  · simp only [addressing, indexedAddress, pageCrossed_eq]; rfl
  · simp only [addressing, memReadWord_zeroPage]; rfl
  · simp only [addressing, memReadWord_zeroPage, indexedAddress, pageCrossed_eq]; rfl

/-- The vocabulary does not see the countdown. -/
@[simp] theorem effectiveAddress_setCycles (o : Operand) (n : Nat) (s : State) :
    effectiveAddress o (s.setCycles n) = effectiveAddress o s := by cases o <;> rfl
@[simp] theorem crossesPage_setCycles (o : Operand) (n : Nat) (s : State) :
    crossesPage o (s.setCycles n) = crossesPage o s := by cases o <;> rfl
@[simp] theorem latched_setCycles (o : Operand) (n : Nat) (s : State) : latched o (s.setCycles n) = latched o s := by
  cases o <;> rfl

/-- An operand read leaves the CPU alone and touches no memory. -/
theorem operandRead_frame (o : Operand) (s : State) :
    (operandRead o s).2.cpu = s.cpu ∧ (operandRead o s).2.cart = s.cart ∧ (operandRead o s).2.config = s.config ∧
      (operandRead o s).2.bus.ram = s.bus.ram ∧ PpuMemoriesKept (operandRead o s).2 s := by
  cases o <;> first
    | exact ⟨rfl, rfl, rfl, rfl, ppuMemoriesKept_of rfl⟩
    | exact ⟨memRead_cpu _ _, memRead_cart _ _, memRead_config _ _, memRead_ram _ _, memRead_ppuMemories _ _⟩

/-- Acquiring an operand from memory has no side effect. -/
theorem operandRead_memory {o : Operand} {s : State} (h : isMemory (effectiveAddress o s) = true) :
    (operandRead o s).2 = s := by
  cases o <;> first | rfl | exact congrArg Prod.snd (memRead_memory s h)

/-- A write to the operand's address after its read: the spec lemma of every read-modify-write. -/
theorem storedByte_operandRead {o : Operand} {v : Byte} {t s : State}
    (h : SameDevices t (memWrite (effectiveAddress o s) v (operandRead o s).2)) :
    StoredByte (effectiveAddress o s) v t s := by
  obtain ⟨_, hk, hg, hr, _⟩ := operandRead_frame o s
  exact memWrite_storedByte_after h.1 h.2.1 h.2.2.1 hr hk hg operandRead_memory

/-- Whatever agrees with the state after an operand read outside the CPU has every memory byte of the state before it. -/
theorem memoryKept_operandRead {o : Operand} {t s : State} (h : SameDevices t (operandRead o s).2) : MemoryKept t s := by
  obtain ⟨_, hc, _, hr, hp⟩ := operandRead_frame o s
  refine memoryKept_of (by rw [h.1, hr]) (by rw [h.2.1, hc]) ?_
  unfold PpuMemoriesKept at hp ⊢
  rw [h.2.2.1]
  exact hp

/-- Mode routine then `fetch()`: the operand value, the state after its one read, the latches (R153). -/
theorem fetchOperand_addressing {o : Operand} (h : isData o = true) (n : Nat) (s : State) :
    fetchOperand o (addressing o (s.setCycles n)).2 =
      ((operandRead o s).1, { (operandRead o s).2 with cpu := afterRead o n s }) := by
  rw [addressing_eq h]
  cases o <;> first
    | rfl
    | exact absurd h Bool.false_ne_true
    | (simp only [fetchOperand, effectiveAddress_setCycles, State.setFetched, operandRead]
       rw [memRead_withCpu, State.setCycles, memRead_withCpu]
       rfl)

/-- The end of an instruction: the extra cycle of the gate, and U (R150, R152). -/
theorem runInstr_eq (base : Nat) (o : Operand) (op : Operation) (s : State) :
    runInstr base o op s =
      let mode := addressing o (s.setCycles base)
      let done := op o mode.2
      { done.2 with cpu :=
        { done.2.cpu with
          cycles := done.2.cpu.cycles + bit (mode.1 && done.1), p := setFlag .u true done.2.cpu.p } } := by
  unfold runInstr bit
  simp only
  cases ((addressing o (s.setCycles base)).1 && (op o (addressing o (s.setCycles base)).2).1) <;> rfl

/-- An operation that acquires its operand once and then changes the state by `f`: the whole instruction. -/
theorem runInstr_read {base : Nat} {o : Operand} {op : Operation} {req : Bool} {f : Byte → State → State}
    (h : isData o = true) (hop : ∀ s, op o s = (req, f (fetchOperand o s).1 (fetchOperand o s).2)) (s : State) :
    runInstr base o op s =
      let u := f (operandRead o s).1 { (operandRead o s).2 with cpu := afterRead o base s }
      { u with cpu :=
        { u.cpu with
          cycles := u.cpu.cycles + bit (crossesPage o s && req), p := setFlag .u true u.cpu.p } } := by
  rw [runInstr_eq]
  simp only [hop, fetchOperand_addressing h]
  rw [addressing_eq h, crossesPage_setCycles]

/-- The state in which an operation that acquires no operand runs. -/
def afterMode (o : Operand) (base : Nat) (s : State) : State :=
  { s with cpu := { s.cpu with cycles := base, addrAbs := effectiveAddress o s, fetched := latched o s } }

/-- An operation that acquires no operand and changes the state by `f`: the whole instruction. -/
theorem runInstr_plain {base : Nat} {o : Operand} {op : Operation} {req : Bool} {f : State → State}
    (h : isData o = true) (hop : ∀ s, op o s = (req, f s)) (s : State) :
    runInstr base o op s =
      let u := f (afterMode o base s)
      { u with cpu :=
        { u.cpu with
          cycles := u.cpu.cycles + bit (crossesPage o s && req), p := setFlag .u true u.cpu.p } } := by
  rw [runInstr_eq]
  simp only [hop]
  rw [addressing_eq h, crossesPage_setCycles, effectiveAddress_setCycles, latched_setCycles]
  rfl

/-! ### Flags at the end of an instruction -/

/-- The flags of a state whose P is `setFlag u` of a computed status. -/
theorem flag_forced (f : Flag) (p : Byte) (t : State) (h : t.cpu.p = setFlag .u true p) :
    flag f t = if f = .u then true else getFlag f p := by
  rw [flag, h, getFlag_setFlag]

/-- Only the flags of `fs` differ when the computed status differs only there. -/
theorem onlyFlags_of {fs : List Flag} {t s : State} {p : Byte} (h : t.cpu.p = setFlag .u true p)
    (hk : ∀ f, f ∉ fs → getFlag f p = getFlag f s.cpu.p) : OnlyFlags fs t s := by
  refine ⟨by rw [flag_forced .u p t h]; rfl, fun f hu hf => ?_⟩
  rw [flag_forced f p t h, if_neg hu, hk f hf]
  rfl

/-- No flag differs when P was only forced. -/
theorem onlyFlags_none {t s : State} (h : t.cpu.p = setFlag .u true s.cpu.p) : OnlyFlags [] t s :=
  onlyFlags_of h (fun _ _ => rfl)

/-- The flags of an instruction that ends with `SetZN(v)`. -/
theorem zeroNegative_of {v : Byte} {t s : State} (h : t.cpu.p = setFlag .u true (setZN v s.cpu.p)) :
    ZeroNegativeOf v t ∧ OnlyFlags [.z, .n] t s := by
  refine ⟨⟨?_, ?_⟩, onlyFlags_of h (fun f hf => ?_)⟩
  · rw [flag_forced _ _ t h, getFlag_setZN]; rfl
  · rw [flag_forced _ _ t h, getFlag_setZN]; rfl
  · rw [getFlag_setZN]
    cases f <;> first | rfl | exact absurd (by decide) hf

/-! ### The two operations of the shift family and the branches -/

/-- `Store(R)` in a memory mode (R169). -/
theorem storeResult_memory {o : Operand} (ho : o ≠ .imp) (v : Byte) (s : State) :
    storeResult o v s = memWrite s.cpu.addrAbs v s := by
  cases o <;> first | rfl | exact absurd rfl ho

/-- The target of a branch as a sum of numbers (R240). -/
theorem branchTarget_eq (pc : Word) (r : Int) : pc + BitVec.ofInt 16 r = BitVec.ofInt 16 (pc.toNat + r) := by
  rw [BitVec.ofInt_add]; simp

/-- A branch as one equation (R240). -/
theorem runInstr_branch (f : Flag) (value : Bool) (r : Int) (s : State) :
    runInstr 2 (.rel r) (branchOn f value) s =
      let target : Word := BitVec.ofInt 16 (s.cpu.pc.toNat + r)
      let taken := decide (flag f s = value)
      { s with cpu :=
        { s.cpu with
          pc := if taken then target else s.cpu.pc
          cycles := 2 + bit taken + bit (taken && decide (page target ≠ page s.cpu.pc))
          addrRel := BitVec.ofInt 16 r, p := setFlag .u true s.cpu.p } } := by
  rw [runInstr_eq]
  by_cases hc : getFlag f s.cpu.p = value
  · have hc' : getFlag f ((s.setCycles 2).setAddrRel (BitVec.ofInt 16 r)).cpu.p = value := hc
    have htk : decide (flag f s = value) = true := decide_eq_true hc
    simp only [addressing, branchOn, if_pos hc', takeBranch, branchTarget, pageCrossed_eq, htk, if_true,
      Bool.true_and]
    simp only [State.setPc, State.setCycles, State.setAddrRel, branchTarget_eq]
    congr 2
    unfold bit
    cases decide (page (BitVec.ofInt 16 (↑s.cpu.pc.toNat + r)) ≠ page s.cpu.pc) <;> rfl
  · have htk : decide (flag f s = value) = false := decide_eq_false hc
    have hop : branchOn f value (.rel r) ((s.setCycles 2).setAddrRel (BitVec.ofInt 16 r)) =
        (false, (s.setCycles 2).setAddrRel (BitVec.ofInt 16 r)) := congrArg (Prod.mk false) (if_neg hc)
    simp only [addressing, hop, htk]
    rfl

/-- The second pointer byte of JMP IND (R165). -/
theorem indirectHighAddress_eq (a : Word) :
    indirectHighAddress a = if a.toNat % 256 = 255 then a - 255#16 else a + 1#16 := by
  have h : (a &&& 0x00FF#16).toNat = a.toNat % 256 := by
    rw [BitVec.toNat_and]
    exact Nat.and_two_pow_sub_one_eq_mod a.toNat 8
  unfold indirectHighAddress
  by_cases hc : a.toNat % 256 = 255
  · rw [if_pos hc, if_pos (BitVec.eq_of_toNat_eq (by rw [h, hc]; rfl))]
    apply BitVec.eq_of_toNat_eq
    have := a.isLt
    rw [andFF00_toNat, BitVec.toNat_sub]
    simp only [BitVec.toNat_ofNat]
    omega
  · rw [if_neg hc, if_neg (fun e => hc (by rw [← h, e]; rfl))]

/-- Two bytes read in order leave the CPU and memory alone. -/
theorem memReadWord_frame (a b : Word) (s : State) :
    (memReadWord a b s).2.cpu = s.cpu ∧ (memReadWord a b s).2.cart = s.cart ∧
      (memReadWord a b s).2.config = s.config ∧ MemoryKept (memReadWord a b s).2 s := by
  have hp : PpuMemoriesKept (memReadWord a b s).2 s := by
    have h1 := memRead_ppuMemories a s
    have h2 := memRead_ppuMemories b (memRead a s).2
    unfold PpuMemoriesKept at h1 h2 ⊢
    exact ⟨h2.1.trans h1.1, h2.2.1.trans h1.2.1, h2.2.2.1.trans h1.2.2.1, h2.2.2.2.1.trans h1.2.2.2.1,
      h2.2.2.2.2.1.trans h1.2.2.2.2.1, h2.2.2.2.2.2.1.trans h1.2.2.2.2.2.1, h2.2.2.2.2.2.2.trans h1.2.2.2.2.2.2⟩
  refine ⟨?_, ?_, ?_, memoryKept_of ?_ ?_ hp⟩ <;> simp [memReadWord]

end Sys2Proof.Machine
end

