-- ==== Sys2Proof/Laws/Routine.lean ====
section
/-! SUPPORT. The 256 instructions are 57 operation routines over twelve modes: which routine an instruction runs, and `exec` as
`runInstr` of it. A property of all instructions is proved per routine. -/

namespace Sys2Proof.Machine

open Sys2Proof.Claim

/-- The operation routines, by mnemonic. -/
inductive Routine where
  | adc | sbc | and | ora | eor | bit | cmp | cpx | cpy | inc | dec | inx | iny | dex | dey
  | asl | lsr | rol | ror
  | bcc | bcs | beq | bmi | bne | bpl | bvc | bvs | jmp | jsr | rts | brk | rti
  | lda | ldx | ldy | sta | stx | sty | tax | tay | tsx | txa | txs | tya | pha | php | pla | plp
  | clc | cld | cli | clv | sec | sed | sei | nop | filler
deriving DecidableEq, Repr

/-- The mnemonic of a routine. -/
def Routine.mnemonic : Routine → String
  | .adc => "ADC"
  | .sbc => "SBC"
  | .and => "AND"
  | .ora => "ORA"
  | .eor => "EOR"
  | .bit => "BIT"
  | .cmp => "CMP"
  | .cpx => "CPX"
  | .cpy => "CPY"
  | .inc => "INC"
  | .dec => "DEC"
  | .inx => "INX"
  | .iny => "INY"
  | .dex => "DEX"
  | .dey => "DEY"
  | .asl => "ASL"
  | .lsr => "LSR"
  | .rol => "ROL"
  | .ror => "ROR"
  | .bcc => "BCC"
  | .bcs => "BCS"
  | .beq => "BEQ"
  | .bmi => "BMI"
  | .bne => "BNE"
  | .bpl => "BPL"
  | .bvc => "BVC"
  | .bvs => "BVS"
  | .jmp => "JMP"
  | .jsr => "JSR"
  | .rts => "RTS"
  | .brk => "BRK"
  | .rti => "RTI"
  | .lda => "LDA"
  | .ldx => "LDX"
  | .ldy => "LDY"
  | .sta => "STA"
  | .stx => "STX"
  | .sty => "STY"
  | .tax => "TAX"
  | .tay => "TAY"
  | .tsx => "TSX"
  | .txa => "TXA"
  | .txs => "TXS"
  | .tya => "TYA"
  | .pha => "PHA"
  | .php => "PHP"
  | .pla => "PLA"
  | .plp => "PLP"
  | .clc => "CLC"
  | .cld => "CLD"
  | .cli => "CLI"
  | .clv => "CLV"
  | .sec => "SEC"
  | .sed => "SED"
  | .sei => "SEI"
  | .nop => "NOP"
  | .filler => "FILLER"

/-- The routine as a function. -/
def Routine.operation : Routine → Operation
  | .adc => opAdc
  | .sbc => opSbc
  | .and => opAnd
  | .ora => opOra
  | .eor => opEor
  | .bit => opBit
  | .cmp => opCmp
  | .cpx => opCpx
  | .cpy => opCpy
  | .inc => opInc
  | .dec => opDec
  | .inx => opInx
  | .iny => opIny
  | .dex => opDex
  | .dey => opDey
  | .asl => opAsl
  | .lsr => opLsr
  | .rol => opRol
  | .ror => opRor
  | .bcc => opBcc
  | .bcs => opBcs
  | .beq => opBeq
  | .bmi => opBmi
  | .bne => opBne
  | .bpl => opBpl
  | .bvc => opBvc
  | .bvs => opBvs
  | .jmp => opJmp
  | .jsr => opJsr
  | .rts => opRts
  | .brk => opBrk
  | .rti => opRti
  | .lda => opLda
  | .ldx => opLdx
  | .ldy => opLdy
  | .sta => opSta
  | .stx => opStx
  | .sty => opSty
  | .tax => opTax
  | .tay => opTay
  | .tsx => opTsx
  | .txa => opTxa
  | .txs => opTxs
  | .tya => opTya
  | .pha => opPha
  | .php => opPhp
  | .pla => opPla
  | .plp => opPlp
  | .clc => opClc
  | .cld => opCld
  | .cli => opCli
  | .clv => opClv
  | .sec => opSec
  | .sed => opSed
  | .sei => opSei
  | .nop => fun o s => opNop (decide (o.mode = .abx)) o s
  | .filler => opNop false

end Sys2Proof.Machine

/-- The routine an instruction runs. -/
def Sys2Proof.Instr.routine (i : Sys2Proof.Instr) : Sys2Proof.Machine.Routine :=
  match i with
  | .brk => .brk
  | .oraIzx _ => .ora
  | .filler02 => .filler
  | .filler03 => .filler
  | .nopZp004 _ => .nop
  | .oraZp0 _ => .ora
  | .aslZp0 _ => .asl
  | .filler07 => .filler
  | .php => .php
  | .oraImm _ => .ora
  | .aslAcc => .asl
  | .filler0B => .filler
  | .nopAbs0C _ => .nop
  | .oraAbs _ => .ora
  | .aslAbs _ => .asl
  | .filler0F => .filler
  | .bpl _ => .bpl
  | .oraIzy _ => .ora
  | .filler12 => .filler
  | .filler13 => .filler
  | .nopZpx14 _ => .nop
  | .oraZpx _ => .ora
  | .aslZpx _ => .asl
  | .filler17 => .filler
  | .clc => .clc
  | .oraAby _ => .ora
  | .nopImp1A => .nop
  | .filler1B => .filler
  | .nopAbx1C _ => .nop
  | .oraAbx _ => .ora
  | .aslAbx _ => .asl
  | .filler1F => .filler
  | .jsr _ => .jsr
  | .andIzx _ => .and
  | .filler22 => .filler
  | .filler23 => .filler
  | .bitZp0 _ => .bit
  | .andZp0 _ => .and
  | .rolZp0 _ => .rol
  | .filler27 => .filler
  | .plp => .plp
  | .andImm _ => .and
  | .rolAcc => .rol
  | .filler2B => .filler
  | .bitAbs _ => .bit
  | .andAbs _ => .and
  | .rolAbs _ => .rol
  | .filler2F => .filler
  | .bmi _ => .bmi
  | .andIzy _ => .and
  | .filler32 => .filler
  | .filler33 => .filler
  | .nopZpx34 _ => .nop
  | .andZpx _ => .and
  | .rolZpx _ => .rol
  | .filler37 => .filler
  | .sec => .sec
  | .andAby _ => .and
  | .nopImp3A => .nop
  | .filler3B => .filler
  | .nopAbx3C _ => .nop
  | .andAbx _ => .and
  | .rolAbx _ => .rol
  | .filler3F => .filler
  | .rti => .rti
  | .eorIzx _ => .eor
  | .filler42 => .filler
  | .filler43 => .filler
  | .nopZp044 _ => .nop
  | .eorZp0 _ => .eor
  | .lsrZp0 _ => .lsr
  | .filler47 => .filler
  | .pha => .pha
  | .eorImm _ => .eor
  | .lsrAcc => .lsr
  | .filler4B => .filler
  | .jmpAbs _ => .jmp
  | .eorAbs _ => .eor
  | .lsrAbs _ => .lsr
  | .filler4F => .filler
  | .bvc _ => .bvc
  | .eorIzy _ => .eor
  | .filler52 => .filler
  | .filler53 => .filler
  | .nopZpx54 _ => .nop
  | .eorZpx _ => .eor
  | .lsrZpx _ => .lsr
  | .filler57 => .filler
  | .cli => .cli
  | .eorAby _ => .eor
  | .nopImp5A => .nop
  | .filler5B => .filler
  | .nopAbx5C _ => .nop
  | .eorAbx _ => .eor
  | .lsrAbx _ => .lsr
  | .filler5F => .filler
  | .rts => .rts
  | .adcIzx _ => .adc
  | .filler62 => .filler
  | .filler63 => .filler
  | .nopZp064 _ => .nop
  | .adcZp0 _ => .adc
  | .rorZp0 _ => .ror
  | .filler67 => .filler
  | .pla => .pla
  | .adcImm _ => .adc
  | .rorAcc => .ror
  | .filler6B => .filler
  | .jmpInd _ => .jmp
  | .adcAbs _ => .adc
  | .rorAbs _ => .ror
  | .filler6F => .filler
  | .bvs _ => .bvs
  | .adcIzy _ => .adc
  | .filler72 => .filler
  | .filler73 => .filler
  | .nopZpx74 _ => .nop
  | .adcZpx _ => .adc
  | .rorZpx _ => .ror
  | .filler77 => .filler
  | .sei => .sei
  | .adcAby _ => .adc
  | .nopImp7A => .nop
  | .filler7B => .filler
  | .nopAbx7C _ => .nop
  | .adcAbx _ => .adc
  | .rorAbx _ => .ror
  | .filler7F => .filler
  | .nopImm80 _ => .nop
  | .staIzx _ => .sta
  | .nopImm82 _ => .nop
  | .filler83 => .filler
  | .styZp0 _ => .sty
  | .staZp0 _ => .sta
  | .stxZp0 _ => .stx
  | .filler87 => .filler
  | .dey => .dey
  | .nopImm89 _ => .nop
  | .txa => .txa
  | .filler8B => .filler
  | .styAbs _ => .sty
  | .staAbs _ => .sta
  | .stxAbs _ => .stx
  | .filler8F => .filler
  | .bcc _ => .bcc
  | .staIzy _ => .sta
  | .filler92 => .filler
  | .filler93 => .filler
  | .styZpx _ => .sty
  | .staZpx _ => .sta
  | .stxZpy _ => .stx
  | .filler97 => .filler
  | .tya => .tya
  | .staAby _ => .sta
  | .txs => .txs
  | .filler9B => .filler
  | .filler9C => .filler
  | .staAbx _ => .sta
  | .filler9E => .filler
  | .filler9F => .filler
  | .ldyImm _ => .ldy
  | .ldaIzx _ => .lda
  | .ldxImm _ => .ldx
  | .fillerA3 => .filler
  | .ldyZp0 _ => .ldy
  | .ldaZp0 _ => .lda
  | .ldxZp0 _ => .ldx
  | .fillerA7 => .filler
  | .tay => .tay
  | .ldaImm _ => .lda
  | .tax => .tax
  | .fillerAB => .filler
  | .ldyAbs _ => .ldy
  | .ldaAbs _ => .lda
  | .ldxAbs _ => .ldx
  | .fillerAF => .filler
  | .bcs _ => .bcs
  | .ldaIzy _ => .lda
  | .fillerB2 => .filler
  | .fillerB3 => .filler
  | .ldyZpx _ => .ldy
  | .ldaZpx _ => .lda
  | .ldxZpy _ => .ldx
  | .fillerB7 => .filler
  | .clv => .clv
  | .ldaAby _ => .lda
  | .tsx => .tsx
  | .fillerBB => .filler
  | .ldyAbx _ => .ldy
  | .ldaAbx _ => .lda
  | .ldxAby _ => .ldx
  | .fillerBF => .filler
  | .cpyImm _ => .cpy
  | .cmpIzx _ => .cmp
  | .nopImmC2 _ => .nop
  | .fillerC3 => .filler
  | .cpyZp0 _ => .cpy
  | .cmpZp0 _ => .cmp
  | .decZp0 _ => .dec
  | .fillerC7 => .filler
  | .iny => .iny
  | .cmpImm _ => .cmp
  | .dex => .dex
  | .fillerCB => .filler
  | .cpyAbs _ => .cpy
  | .cmpAbs _ => .cmp
  | .decAbs _ => .dec
  | .fillerCF => .filler
  | .bne _ => .bne
  | .cmpIzy _ => .cmp
  | .fillerD2 => .filler
  | .fillerD3 => .filler
  | .nopZpxD4 _ => .nop
  | .cmpZpx _ => .cmp
  | .decZpx _ => .dec
  | .fillerD7 => .filler
  | .cld => .cld
  | .cmpAby _ => .cmp
  | .nopImpDA => .nop
  | .fillerDB => .filler
  | .nopAbxDC _ => .nop
  | .cmpAbx _ => .cmp
  | .decAbx _ => .dec
  | .fillerDF => .filler
  | .cpxImm _ => .cpx
  | .sbcIzx _ => .sbc
  | .nopImmE2 _ => .nop
  | .fillerE3 => .filler
  | .cpxZp0 _ => .cpx
  | .sbcZp0 _ => .sbc
  | .incZp0 _ => .inc
  | .fillerE7 => .filler
  | .inx => .inx
  | .sbcImm _ => .sbc
  | .nop => .nop
  | .fillerEB => .filler
  | .cpxAbs _ => .cpx
  | .sbcAbs _ => .sbc
  | .incAbs _ => .inc
  | .fillerEF => .filler
  | .beq _ => .beq
  | .sbcIzy _ => .sbc
  | .fillerF2 => .filler
  | .fillerF3 => .filler
  | .nopZpxF4 _ => .nop
  | .sbcZpx _ => .sbc
  | .incZpx _ => .inc
  | .fillerF7 => .filler
  | .sed => .sed
  | .sbcAby _ => .sbc
  | .nopImpFA => .nop
  | .fillerFB => .filler
  | .nopAbxFC _ => .nop
  | .sbcAbx _ => .sbc
  | .incAbx _ => .inc
  | .fillerFF => .filler

namespace Sys2Proof.Machine

open Sys2Proof.Claim

/-- Every row's mnemonic is its routine's. -/
theorem mnemonic_routine (i : Instr) : (rowOf i.opcode).mnemonic = i.routine.mnemonic := by cases i <;> rfl

/-- The arms of `exec`: a filler, or a routine with its row's base cycles. -/
theorem exec_arms (i : Instr) (s : State) :
    exec i s =
      if i.routine = .filler then runFiller (rowOf i.opcode).cycles s
      else .next (runInstr (rowOf i.opcode).cycles i.operand i.routine.operation s) := by
  cases i <;> rfl

/-- The fillers are in mode IMP. -/
theorem operand_filler {i : Instr} (h : i.routine = .filler) : i.operand = .imp := by
  cases i <;> first | rfl | exact absurd h Routine.noConfusion

/-- `exec` in one equation: a filler under REFUSE is refused, everything else runs its routine. -/
theorem exec_routine (i : Instr) (s : State) :
    exec i s =
      if i.routine = .filler ∧ s.config.illegalOpcode = .refuse then .refused .illegalOpcode
      else .next (runInstr (rowOf i.opcode).cycles i.operand i.routine.operation s) := by
  rw [exec_arms]
  by_cases h : i.routine = .filler
  · rw [if_pos h, operand_filler h, h]
    cases hc : s.config.illegalOpcode <;> simp [runFiller, hc, Routine.operation]
  · rw [if_neg h, if_neg (fun e => h e.1)]

/-- A next state of `exec` is the one the routine leaves. -/
theorem exec_next {i : Instr} {s t : State} (h : exec i s = .next t) :
    t = runInstr (rowOf i.opcode).cycles i.operand i.routine.operation s := by
  rw [exec_routine] at h
  split at h
  · cases h
  · exact (Host.Outcome.next.inj h).symm

end Sys2Proof.Machine
end

