-- ==== Sys2Proof/Laws/Induction.lean ====
section
/-! SUPPORT. The one induction over what the CPU can do: it reaches the rest of the machine only through `MemRead` and `MemWrite`. A
property kept by those two, whatever the CPU registers are, is kept by every fetch, instruction and interrupt. -/

namespace Sys2Proof.Machine

/-- A property of the state that CPU registers do not decide and that bus accesses keep. -/
structure BusInvariant (P : State → Prop) : Prop where
  cpu : ∀ (c : Cpu) (s : State), P s → P { s with cpu := c }
  read : ∀ (a : Word) (s : State), P s → P (memRead a s).2
  write : ∀ (a : Word) (v : Byte) (s : State), P s → P (memWrite a v s)

namespace BusInvariant

variable {P : State → Prop} (inv : BusInvariant P)
include inv

/-- A state that differs in the CPU registers only. -/
theorem of {s t : State} (h : P s) (e : t = { s with cpu := t.cpu }) : P t := by
  rw [e]
  exact inv.cpu _ s h

theorem readWord (a b : Word) {s : State} (h : P s) : P (memReadWord a b s).2 := inv.read b _ (inv.read a s h)

theorem push (v : Byte) {s : State} (h : P s) : P (push v s) := inv.cpu _ _ (inv.write _ v s h)

theorem pull {s : State} (h : P s) : P (pull s).2 := inv.read _ (s.setS (s.cpu.s + 1#8)) (inv.cpu _ s h)

theorem pushWord (w : Word) {s : State} (h : P s) : P (pushWord w s) := inv.push _ (inv.push _ h)

theorem pullWord {s : State} (h : P s) : P (pullWord s).2 := inv.pull (inv.pull h)

theorem loadVector (vec : Word) {s : State} (h : P s) : P (loadVector vec s) := inv.cpu _ _ (inv.readWord _ _ h)

/-- Interrupt entry (R330). -/
theorem interruptEntry (vec : Word) (n : Nat) {s : State} (h : P s) : P (interruptEntry vec n s) :=
  inv.cpu _ _ (inv.loadVector vec (inv.push _ (inv.cpu _ _ (inv.pushWord _ h))))

theorem nmi {s : State} (h : P s) : P (nmi s) := inv.interruptEntry _ _ h

theorem irq {s : State} (h : P s) : P (irq s) := by
  unfold Machine.irq
  split
  · exact h
  · exact inv.interruptEntry _ _ h

theorem addressing (o : Operand) {s : State} (h : P s) : P (addressing o s).2 := by
  cases o with
  | imp | imm | zp0 | zpx | zpy | rel | abs | abx | aby => exact inv.cpu _ _ h
  | ind | izx | izy => exact inv.cpu _ _ (inv.readWord _ _ h)

theorem fetchOperand (o : Operand) {s : State} (h : P s) : P (fetchOperand o s).2 := by
  cases o with
  | imp => exact h
  | imm => exact inv.cpu _ _ h
  | zp0 | zpx | zpy | rel | abs | abx | aby | ind | izx | izy => exact inv.cpu _ _ (inv.read _ _ h)

theorem storeResult (o : Operand) (v : Byte) {s : State} (h : P s) : P (storeResult o v s) := by
  cases o with
  | imp => exact inv.cpu _ _ h
  | imm | zp0 | zpx | zpy | rel | abs | abx | aby | ind | izx | izy => exact inv.write _ _ _ h

theorem branchOn (f : Flag) (value : Bool) (o : Operand) {s : State} (h : P s) : P (branchOn f value o s).2 := by
  unfold Machine.branchOn
  simp only
  split
  · exact inv.of h rfl
  · exact h

/-- Every operation routine. -/
theorem operation (r : Routine) (o : Operand) {s : State} (h : P s) : P (r.operation o s).2 := by
  have hf := inv.fetchOperand o h
  cases r with
  | adc | sbc | and | ora | eor | bit | cmp | cpx | cpy | lda | ldx | ldy => exact inv.of hf rfl
  | inx | iny | dex | dey | tax | tay | tsx | txa | txs | tya | jmp | clc | cld | cli | clv | sec | sed | sei =>
    exact inv.of h rfl
  | nop | filler => exact h
  | bcc | bcs | beq | bmi | bne | bpl | bvc | bvs => exact inv.branchOn _ _ o h
  | inc | dec => exact inv.cpu _ _ (inv.write _ _ _ hf)
  | asl | lsr | rol | ror => exact inv.storeResult o _ (inv.cpu _ _ hf)
  | sta | stx | sty => exact inv.write _ _ _ h
  | pha | php => exact inv.push _ h
  | pla | plp => exact inv.of (inv.pull h) rfl
  | jsr => exact inv.cpu _ _ (inv.pushWord _ h)
  | rts => exact inv.cpu _ _ (inv.pullWord h)
  | brk => exact inv.loadVector _ (inv.cpu _ _ (inv.push _ (inv.pushWord _ (inv.cpu _ _ h))))
  | rti => exact inv.cpu _ _ (inv.pullWord (inv.cpu _ _ (inv.pull h)))

theorem runInstr (base : Nat) (r : Routine) (o : Operand) {s : State} (h : P s) :
    P (runInstr base o r.operation s) :=
  inv.of (inv.operation r o (inv.addressing o (inv.cpu _ s h))) rfl

/-- Every instruction. -/
theorem exec {i : Instr} {s t : State} (h : P s) (ht : exec i s = .next t) : P t := by
  rw [exec_next ht]
  exact inv.runInstr _ _ _ h

/-! ### The fetch and a CPU cycle -/

theorem fetchByte {s : State} (h : P s) : P (fetchByte s).2 := inv.cpu _ _ (inv.read _ _ h)

theorem fetchOperandByte (r : Row) {s : State} (h : P s) : P (fetchOperandByte r s).2 := by
  unfold Machine.fetchOperandByte
  split
  · exact inv.cpu _ _ h
  · exact inv.fetchByte h

theorem fetchOpcode {s : State} (h : P s) : P (fetchOpcode s) := inv.of (inv.read _ _ h) rfl

/-- Every fetch. -/
theorem fetchInstr {s : State} (h : P s) : P (fetchInstr s).2 := by
  have h1 := inv.fetchOpcode h
  unfold Machine.fetchInstr
  simp only
  split
  · exact h1
  · exact inv.fetchOperandByte _ h1
  · exact inv.fetchByte h1
  · exact inv.fetchByte (inv.fetchByte h1)

end BusInvariant

end Sys2Proof.Machine
end

