-- ==== Sys2Proof/Laws/Ppu.lean ====
section
/-! SUPPORT. One PPU step: what each of its parts can change, said once (spec/62_ppu_rendering.md). -/

namespace Sys2Proof.Machine

/-! ### The parts of a step -/

/-- `t` differs from `s` at most in what the pipeline writes: status, `v`, the NMI request, the latches and the shifters. -/
def PipelineOnly (t s : State) : Prop :=
  t = { s with ppu :=
    { s.ppu with
      status := t.ppu.status, v := t.ppu.v, nmi := t.ppu.nmi, bgNextTileId := t.ppu.bgNextTileId,
      bgNextTileAttrib := t.ppu.bgNextTileAttrib, bgNextTileLsb := t.ppu.bgNextTileLsb,
      bgNextTileMsb := t.ppu.bgNextTileMsb, bgShifterPatternLo := t.ppu.bgShifterPatternLo,
      bgShifterPatternHi := t.ppu.bgShifterPatternHi, bgShifterAttribLo := t.ppu.bgShifterAttribLo,
      bgShifterAttribHi := t.ppu.bgShifterAttribHi } }

theorem PipelineOnly.refl (s : State) : PipelineOnly s s := rfl

theorem PipelineOnly.trans {a b c : State} (h : PipelineOnly a b) (h' : PipelineOnly b c) : PipelineOnly a c := by
  unfold PipelineOnly at *
  rw [h'] at h
  exact h

/-- A conditional part. -/
theorem PipelineOnly.runIf {c : Prop} [Decidable c] {f : State → State} (h : ∀ s, PipelineOnly (f s) s) (s : State) :
    PipelineOnly (runIf c f s) s := by
  unfold Machine.runIf
  split
  · exact h s
  · exact .refl s

theorem scrollUpdate_only (f : Loopy → Loopy → Loopy) (s : State) : PipelineOnly (scrollUpdate f s) s := by
  unfold scrollUpdate
  split
  · rfl
  · exact .refl s

theorem updateShifters_only (s : State) : PipelineOnly (updateShifters s) s := by
  unfold updateShifters
  split
  · rfl
  · exact .refl s

theorem fetchColumn_only (col : Nat) (s : State) : PipelineOnly (fetchColumn col s) s := by
  refine PipelineOnly.trans ?_ (updateShifters_only s)
  unfold fetchColumn
  simp only
  split <;> first | rfl | exact scrollUpdate_only _ _

theorem fetchNametable_only (s : State) : PipelineOnly (fetchNametable s) s := rfl

theorem preRenderClear_only (s : State) : PipelineOnly (preRenderClear s) s := rfl

theorem vblankStart_only (s : State) : PipelineOnly (vblankStart s) s := rfl

theorem loadBackgroundShifters_only (s : State) : PipelineOnly (loadBackgroundShifters s) s := rfl

theorem renderColumn_only (line : Int) (col : Nat) (s : State) : PipelineOnly (renderColumn line col s) s := by
  unfold renderColumn
  simp only
  refine .trans (.runIf (scrollUpdate_only copyVertical) _) (.trans (.runIf fetchNametable_only _)
    (.trans (.runIf (fun s => ?_) _) (.trans (.runIf (scrollUpdate_only _) _)
      (.trans (.runIf (fetchColumn_only col) _) (.runIf preRenderClear_only s)))))
  exact .trans (scrollUpdate_only _ _) (loadBackgroundShifters_only s)

/-- The actions before the pixel. -/
theorem rasterActions_only (s : State) : PipelineOnly (rasterActions s) s := by
  unfold rasterActions
  simp only
  exact .trans (.runIf vblankStart_only _) (.runIf (renderColumn_only _ _) s)

/-- The pixel writes the picture only. -/
theorem pixelOut_only (s : State) : pixelOut s = { s with ppu := { s.ppu with frame := (pixelOut s).ppu.frame } } := by
  unfold pixelOut Machine.runIf
  split <;> rfl

/-- The raster counter writes the raster only. -/
theorem advanceRaster_only (s : State) :
    advanceRaster s =
      { s with ppu :=
        { s.ppu with
          cycle := (advanceRaster s).ppu.cycle, scanline := (advanceRaster s).ppu.scanline,
          frameComplete := (advanceRaster s).ppu.frameComplete, oddFrame := (advanceRaster s).ppu.oddFrame } } := by
  unfold advanceRaster
  split
  · split <;> rfl
  · rfl

/-- The odd-frame skip writes `cycle` only. -/
theorem skipOddFrame_only (s : State) :
    skipOddFrame s = { s with ppu := { s.ppu with cycle := (skipOddFrame s).ppu.cycle } } := by
  unfold skipOddFrame Machine.runIf
  split <;> rfl

/-! ### The whole step -/

/-- The spec lemma of a PPU step: it writes nothing outside the PPU, no memory but the picture, and none of `ctrl`, `mask`, `t`,
`fine_x`, `w`, `data_buffer`, `oam_addr`. -/
theorem ppuClock_only (s : State) :
    ppuClock s =
      { s with ppu :=
        { (ppuClock s).ppu with
          ctrl := s.ppu.ctrl, mask := s.ppu.mask, t := s.ppu.t, fineX := s.ppu.fineX, w := s.ppu.w,
          dataBuffer := s.ppu.dataBuffer, oamAddr := s.ppu.oamAddr, oam := s.ppu.oam, palette := s.ppu.palette,
          nametable0 := s.ppu.nametable0, nametable1 := s.ppu.nametable1, pattern0 := s.ppu.pattern0,
          pattern1 := s.ppu.pattern1 } } := by
  have h2 := rasterActions_only (skipOddFrame s)
  unfold PipelineOnly at h2
  unfold ppuClock
  rw [advanceRaster_only (pixelOut (rasterActions (skipOddFrame s))), pixelOut_only (rasterActions (skipOddFrame s)), h2,
    skipOddFrame_only s]

@[simp] theorem ppuClock_cpu (s : State) : (ppuClock s).cpu = s.cpu := by rw [ppuClock_only]
@[simp] theorem ppuClock_bus (s : State) : (ppuClock s).bus = s.bus := by rw [ppuClock_only]
@[simp] theorem ppuClock_cart (s : State) : (ppuClock s).cart = s.cart := by rw [ppuClock_only]
@[simp] theorem ppuClock_config (s : State) : (ppuClock s).config = s.config := by rw [ppuClock_only]

/-- Outside the raster and the picture a step leaves what its actions leave. -/
theorem ppuClock_actions (s : State) :
    ppuClock s =
      { rasterActions (skipOddFrame s) with ppu :=
        { (rasterActions (skipOddFrame s)).ppu with
          cycle := (ppuClock s).ppu.cycle, scanline := (ppuClock s).ppu.scanline,
          frameComplete := (ppuClock s).ppu.frameComplete, oddFrame := (ppuClock s).ppu.oddFrame,
          frame := (ppuClock s).ppu.frame } } := by
  unfold ppuClock
  rw [advanceRaster_only (pixelOut (rasterActions (skipOddFrame s))), pixelOut_only (rasterActions (skipOddFrame s))]

/-- The raster after a step. -/
theorem advanceRaster_congr {s t : State} (hc : t.ppu.cycle = s.ppu.cycle) (hl : t.ppu.scanline = s.ppu.scanline)
    (hf : t.ppu.frameComplete = s.ppu.frameComplete) (ho : t.ppu.oddFrame = s.ppu.oddFrame) :
    (advanceRaster t).ppu.cycle = (advanceRaster s).ppu.cycle ∧
      (advanceRaster t).ppu.scanline = (advanceRaster s).ppu.scanline ∧
      (advanceRaster t).ppu.frameComplete = (advanceRaster s).ppu.frameComplete ∧
      (advanceRaster t).ppu.oddFrame = (advanceRaster s).ppu.oddFrame := by
  unfold advanceRaster
  rw [hc, hl]
  split
  · split
    · exact ⟨rfl, rfl, rfl, by rw [ho]⟩
    · exact ⟨rfl, rfl, hf, ho⟩
  · exact ⟨rfl, hl, hf, ho⟩

/-- The raster after a step depends on the raster alone, after the odd-frame skip (R402, R426). -/
theorem ppuClock_raster (s : State) :
    (ppuClock s).ppu.cycle = (advanceRaster (skipOddFrame s)).ppu.cycle ∧
      (ppuClock s).ppu.scanline = (advanceRaster (skipOddFrame s)).ppu.scanline ∧
      (ppuClock s).ppu.frameComplete = (advanceRaster (skipOddFrame s)).ppu.frameComplete ∧
      (ppuClock s).ppu.oddFrame = (advanceRaster (skipOddFrame s)).ppu.oddFrame := by
  have h := rasterActions_only (skipOddFrame s)
  unfold PipelineOnly at h
  exact advanceRaster_congr (by rw [pixelOut_only, h]) (by rw [pixelOut_only, h]) (by rw [pixelOut_only, h])
    (by rw [pixelOut_only, h])

/-- The picture after a step is the one the pixel leaves. -/
theorem ppuClock_frame (s : State) :
    (ppuClock s).ppu.frame = (pixelOut (rasterActions (skipOddFrame s))).ppu.frame := by
  unfold ppuClock
  rw [advanceRaster_only]

/-- Without the odd-frame skip a step starts at the raster position it finds (R402). -/
theorem skipOddFrame_none {s : State}
    (h : s.config.oddFrameSkip = .none ∨ s.ppu.scanline ≠ 0 ∨ s.ppu.cycle ≠ 0) : skipOddFrame s = s := by
  unfold skipOddFrame Machine.runIf
  rw [if_neg]
  rintro ⟨h1, h2, h3, -⟩
  rcases h with h | h | h
  · rw [h1] at h; cases h
  · exact h h2
  · exact h h3

/-- The skip leaves no position at which it applies (R402). -/
theorem skipOddFrame_idem (s : State) : skipOddFrame (skipOddFrame s) = skipOddFrame s := by
  by_cases h : s.ppu.scanline ≠ 0 ∨ s.ppu.cycle ≠ 0
  · rw [skipOddFrame_none (Or.inr h), skipOddFrame_none (Or.inr h)]
  · by_cases hc : (skipOddFrame s).ppu.cycle = 0
    · have hs : skipOddFrame s = s := by rw [skipOddFrame_only, hc, ← not_not.mp (not_or.mp h).2]
      rw [hs, hs]
    · exact skipOddFrame_none (Or.inr (Or.inr hc))

/-- A step is the step of the position the odd-frame skip leaves (R402). -/
theorem ppuClock_skip (s : State) : ppuClock (skipOddFrame s) = ppuClock s := by
  unfold ppuClock
  rw [skipOddFrame_idem]

/-- The picture stays canonical (R45). -/
theorem pixelOut_wf {s : State} (h : Picture.wf s.ppu.frame = true) : Picture.wf (pixelOut s).ppu.frame = true := by
  unfold pixelOut Machine.runIf
  split
  · rename_i hc
    exact Picture.wf_write (by omega) (by omega) h
  · exact h

end Sys2Proof.Machine
end

