-- ==== Sys2Proof/Laws/Canonical.lean ====
section
/-! SUPPORT. Every memory operation keeps every memory in its canonical form and inside its size (`State.memoriesOk`). -/

namespace Sys2Proof.Machine

open Sys2Proof.Claim

/-! ### What decides the form -/

/-- The form depends on the memories alone. -/
theorem memoriesOk_congr {t s : State} (hr : t.bus.ram = s.bus.ram) (hc : t.cart = s.cart) (hp : PpuMemoriesKept t s) :
    t.memoriesOk = s.memoriesOk := by
  obtain ⟨h1, h2, h3, h4, h5, h6, h7⟩ := hp
  unfold State.memoriesOk Ppu.memoriesOk
  rw [hr, hc, h1, h2, h3, h4, h5, h6, h7]

/-- A state with another CPU. -/
theorem memoriesOk_withCpu (c : Cpu) (s : State) : State.memoriesOk { s with cpu := c } = s.memoriesOk := rfl

theorem memoriesOk_parts {s : State} :
    s.memoriesOk = true ↔ Memory.wf 2048 s.bus.ram = true ∧ s.ppu.memoriesOk = true ∧ cartOk s.cart = true := by
  simp only [State.memoriesOk, Bool.and_eq_true, and_assoc]

theorem ppuMemoriesOk_parts {p : Ppu} :
    p.memoriesOk = true ↔
      Memory.wf 256 p.oam = true ∧ Memory.wf 32 p.palette = true ∧ Memory.wf 1024 p.nametable0 = true ∧
        Memory.wf 1024 p.nametable1 = true ∧ Memory.wf 4096 p.pattern0 = true ∧ Memory.wf 4096 p.pattern1 = true ∧
        Picture.wf p.frame = true := by
  simp only [Ppu.memoriesOk, Bool.and_eq_true, and_assoc]

theorem cartridgeOk_parts {c : Cartridge} :
    c.ok = true ↔
      1 ≤ c.nPrg ∧ c.mapperId = 0x00#8 ∧ (c.mirror = .horizontal ∨ c.mirror = .vertical) ∧
        Memory.wf (c.nPrg * 16384) c.prg = true ∧ Memory.wf (if c.nChr = 0 then 8192 else c.nChr * 8192) c.chr = true := by
  simp only [Cartridge.ok, Bool.and_eq_true, Bool.or_eq_true, decide_eq_true_eq, and_assoc]

/-! ### The cartridge -/

/-- A CPU address lands inside PRG (R82). -/
theorem cpuMap_lt {c : Cartridge} {a : Word} {o : Nat} (hn : 1 ≤ c.nPrg) (h : cpuMap c a = some o) :
    o < c.nPrg * 16384 := by
  by_cases ha : 0x8000 ≤ a.toNat
  · rw [cpuMap_eq c ha hn] at h
    have ho := Option.some.inj h
    split at ho <;> omega
  · simp [cpuMap, ha] at h

theorem cartCpuWrite_ok {mode : PrgWrite} {cart : Option Cartridge} {a : Word} {v : Byte} {d : Cartridge}
    (hc : cartOk cart = true) (h : cartCpuWrite mode cart a v = some d) : d.ok = true := by
  cases cart with
  | none => cases h
  | some c =>
    have hc : c.ok = true := hc
    unfold cartCpuWrite at h
    cases hm : cpuMap c a with
    | none => simp only [hm, reduceCtorEq] at h
    | some o =>
      simp only [hm] at h
      cases mode with
      | ignore => rw [← Option.some.inj h]; exact hc
      | writeThrough =>
        rw [← Option.some.inj h]
        obtain ⟨h1, h2, h3, h4, h5⟩ := cartridgeOk_parts.mp hc
        exact cartridgeOk_parts.mpr ⟨h1, h2, h3, Memory.wf_write (cpuMap_lt h1 hm) h4, h5⟩

theorem cartPpuWrite_ok {cart : Option Cartridge} {a : PpuAddr} {v : Byte} {d : Cartridge} (hc : cartOk cart = true)
    (h : cartPpuWrite cart a v = some d) : d.ok = true := by
  cases cart with
  | none => cases h
  | some c =>
    obtain ⟨h1, h2, h3, h4, h5⟩ := cartridgeOk_parts.mp (show c.ok = true from hc)
    simp only [cartPpuWrite, ppuMapWrite] at h
    by_cases ha : a.toNat ≤ 0x1FFF ∧ c.nChr = 0
    · rw [if_pos ha, Option.map_some] at h
      rw [← Option.some.inj h]
      refine cartridgeOk_parts.mpr ⟨h1, h2, h3, h4, ?_⟩
      rw [if_pos ha.2] at h5 ⊢
      exact Memory.wf_write (by omega) h5
    · rw [if_neg ha] at h
      cases h

/-! ### The PPU's memories -/

theorem paletteIndex_lt (a : PpuAddr) : paletteIndex a < 32 := by
  have h : (a &&& 0x001F#14).toNat < 32 := by
    rw [BitVec.toNat_and]
    exact Nat.lt_of_le_of_lt Nat.and_le_right (by decide)
  unfold paletteIndex
  simp only
  split <;> omega

theorem ntOffset_lt (a : PpuAddr) : ntOffset a < 1024 := by
  unfold ntOffset
  rw [BitVec.toNat_and]
  exact Nat.lt_of_le_of_lt Nat.and_le_right (by decide)

theorem patternOffset_lt (a : PpuAddr) : (a &&& 0x0FFF#14).toNat < 4096 := by
  rw [BitVec.toNat_and]
  exact Nat.lt_of_le_of_lt Nat.and_le_right (by decide)

theorem patternWrite_ok (a : PpuAddr) (d : Byte) {p : Ppu} (h : p.memoriesOk = true) :
    (patternWrite a d p).memoriesOk = true := by
  obtain ⟨h1, h2, h3, h4, h5, h6, h7⟩ := ppuMemoriesOk_parts.mp h
  unfold patternWrite
  split
  · exact ppuMemoriesOk_parts.mpr ⟨h1, h2, h3, h4, h5, Memory.wf_write (patternOffset_lt a) h6, h7⟩
  · exact ppuMemoriesOk_parts.mpr ⟨h1, h2, h3, h4, Memory.wf_write (patternOffset_lt a) h5, h6, h7⟩

theorem nametableWrite_ok (m : Mirror) (a : PpuAddr) (d : Byte) {p : Ppu} (h : p.memoriesOk = true) :
    (nametableWrite m a d p).memoriesOk = true := by
  obtain ⟨h1, h2, h3, h4, h5, h6, h7⟩ := ppuMemoriesOk_parts.mp h
  unfold nametableWrite
  split
  · exact ppuMemoriesOk_parts.mpr ⟨h1, h2, h3, Memory.wf_write (ntOffset_lt a) h4, h5, h6, h7⟩
  · exact ppuMemoriesOk_parts.mpr ⟨h1, h2, Memory.wf_write (ntOffset_lt a) h3, h4, h5, h6, h7⟩

theorem paletteWrite_ok (a : PpuAddr) (d : Byte) {p : Ppu} (h : p.memoriesOk = true) :
    (paletteWrite a d p).memoriesOk = true := by
  obtain ⟨h1, h2, h3, h4, h5, h6, h7⟩ := ppuMemoriesOk_parts.mp h
  exact ppuMemoriesOk_parts.mpr ⟨h1, Memory.wf_write (paletteIndex_lt a) h2, h3, h4, h5, h6, h7⟩

theorem oamWrite_ok (k d : Byte) {p : Ppu} (h : p.memoriesOk = true) :
    Ppu.memoriesOk { p with oam := Memory.write p.oam k.toNat d } = true := by
  obtain ⟨h1, h2, h3, h4, h5, h6, h7⟩ := ppuMemoriesOk_parts.mp h
  exact ppuMemoriesOk_parts.mpr ⟨Memory.wf_write k.isLt h1, h2, h3, h4, h5, h6, h7⟩

/-- A write on the PPU bus (R91). -/
theorem ppuWrite_ok (a : PpuAddr) (d : Byte) {s : State} (h : s.memoriesOk = true) :
    (ppuWrite a d s).memoriesOk = true := by
  obtain ⟨h1, h2, h3⟩ := memoriesOk_parts.mp h
  unfold ppuWrite
  split
  · rename_i c hc
    exact memoriesOk_parts.mpr ⟨h1, h2, cartPpuWrite_ok h3 hc⟩
  · split
    · exact memoriesOk_parts.mpr ⟨h1, patternWrite_ok a d h2, h3⟩
    · split
      · exact memoriesOk_parts.mpr ⟨h1, nametableWrite_ok _ a d h2, h3⟩
      · exact memoriesOk_parts.mpr ⟨h1, paletteWrite_ok a d h2, h3⟩

theorem scrollWrite_memories (d : Byte) (p : Ppu) : (scrollWrite d p).memoriesOk = p.memoriesOk := by
  unfold scrollWrite
  split <;> rfl

theorem addrWrite_memories (d : Byte) (p : Ppu) : (addrWrite d p).memoriesOk = p.memoriesOk := by
  unfold addrWrite
  split <;> rfl

/-- A write to a PPU port (R362). -/
theorem ppuPortWrite_ok (port : PpuPort) (d : Byte) {s : State} (h : s.memoriesOk = true) :
    (ppuPortWrite port d s).memoriesOk = true := by
  obtain ⟨h1, h2, h3⟩ := memoriesOk_parts.mp h
  cases port with
  | ctrl => exact h
  | mask => exact h
  | status => exact h
  | oamAddr => exact h
  | oamData => exact memoriesOk_parts.mpr ⟨h1, oamWrite_ok _ d h2, h3⟩
  | scroll => exact memoriesOk_parts.mpr ⟨h1, (scrollWrite_memories d s.ppu).trans h2, h3⟩
  | addr => exact memoriesOk_parts.mpr ⟨h1, (addrWrite_memories d s.ppu).trans h2, h3⟩
  | data => exact ppuWrite_ok _ d h

/-! ### The CPU bus -/

theorem ramOffset_lt (a : Word) : ramOffset a < 2048 := by rw [ramOffset_eq]; exact Nat.mod_lt _ (by decide)

/-- A write on the CPU bus keeps every memory in form (R72). -/
theorem memWrite_ok (a : Word) (v : Byte) {s : State} (h : s.memoriesOk = true) :
    (memWrite a v s).memoriesOk = true := by
  obtain ⟨h1, h2, h3⟩ := memoriesOk_parts.mp h
  unfold memWrite
  split
  · rename_i c hc
    exact memoriesOk_parts.mpr ⟨h1, h2, cartCpuWrite_ok h3 hc⟩
  · split
    · exact memoriesOk_parts.mpr ⟨Memory.wf_write (ramOffset_lt a) h1, h2, h3⟩
    · split
      · exact ppuPortWrite_ok _ v h
      · split
        · exact h
        · split
          · unfold controllerWrite
            split <;> exact h
          · exact h

/-- A read on the CPU bus writes no memory (R71). -/
theorem memRead_ok (a : Word) {s : State} (h : s.memoriesOk = true) : (memRead a s).2.memoriesOk = true :=
  (memoriesOk_congr (memRead_ram a s) (memRead_cart a s) (memRead_ppuMemories a s)).trans h

/-- Canonical memories are kept by everything the CPU does. -/
theorem memoriesOk_busInvariant : BusInvariant (fun s => s.memoriesOk = true) where
  cpu := fun _ _ h => h
  read := fun a _ h => memRead_ok a h
  write := fun a v _ h => memWrite_ok a v h

/-! ### The PPU step -/

/-- A PPU step keeps every memory in form: it writes the picture only. -/
theorem ppuClock_ok {s : State} (h : s.memoriesOk = true) : (ppuClock s).memoriesOk = true := by
  obtain ⟨h1, h2, h3⟩ := memoriesOk_parts.mp h
  obtain ⟨g1, g2, g3, g4, g5, g6, g7⟩ := ppuMemoriesOk_parts.mp h2
  have hf : Picture.wf (ppuClock s).ppu.frame = true := by
    rw [ppuClock_frame]
    refine pixelOut_wf ?_
    rw [rasterActions_only (skipOddFrame s), skipOddFrame_only]
    exact g7
  rw [ppuClock_only]
  exact memoriesOk_parts.mpr ⟨h1, ppuMemoriesOk_parts.mpr ⟨g1, g2, g3, g4, g5, g6, hf⟩, h3⟩

/-! ### DMA -/

theorem dmaRead_ok {s : State} (h : s.memoriesOk = true) : (dmaRead s).memoriesOk = true :=
  memRead_ok (dmaSource s.bus) h

theorem dmaWrite_ok {s : State} (h : s.memoriesOk = true) : (dmaWrite s).memoriesOk = true := by
  obtain ⟨h1, h2, h3⟩ := memoriesOk_parts.mp h
  exact memoriesOk_parts.mpr ⟨h1, oamWrite_ok _ _ h2, h3⟩

theorem dmaStep_ok {s : State} (h : s.memoriesOk = true) : (dmaStep s).memoriesOk = true := by
  unfold dmaStep
  split
  · split <;> exact h
  · split
    · exact dmaRead_ok h
    · exact dmaWrite_ok h

/-! ### Loading and reset -/

/-- A cartridge built from an image is sound (R84, R85). -/
theorem loadImage_ok {image : List Byte} {c : Cartridge} (h : loadImage image = .ok c) : c.ok = true := by
  unfold loadImage at h
  simp only at h
  split at h
  · cases h
  · split at h
    · cases h
    · split at h
      · cases h
      · split at h
        · cases h
        · split at h
          · cases h
          · rename_i h1 h2 h3 h4 h5
            cases h
            refine cartridgeOk_parts.mpr ⟨Nat.one_le_iff_ne_zero.mpr h4, by simpa using h3, ?_, ?_, ?_⟩
            · unfold imageMirror
              split
              · exact Or.inr rfl
              · exact Or.inl rfl
            · exact Memory.wf_ofBytes (by rw [List.length_take]; exact Nat.min_le_left _ _)
            · refine Memory.wf_ofBytes ?_
              rw [List.length_take]
              simp only
              split <;> omega

/-- The memories of the state after reset are in form. -/
theorem reset_memoriesOk : State.reset.memoriesOk = true := by decide

end Sys2Proof.Machine
end

