-- ==== Sys2Proof/Laws/Rows.lean ====
section
/-! SUPPORT. The opcode table and the encoder's tables agree: what the row of every opcode builds has that opcode, the row's mode
and the operand bytes it was built from. Read once for all 256 rows. -/

namespace Sys2Proof

/-- The instruction a row builds from its operand is that of opcode `op`. -/
def Row.builds (op : Byte) (r : Row) : Prop :=
  match r.build with
  | .implied i => i.opcode = op ∧ i.operand.mode = r.mode ∧ i.operand.bytes = [] ∧ i.wf = true ∧ 1 ≤ r.cycles
  | .byte f =>
    ∀ b, (f b).opcode = op ∧ (f b).operand.mode = r.mode ∧ (f b).operand.bytes = [b] ∧ (f b).wf = true ∧ 1 ≤ r.cycles
  | .offset f =>
    ∀ n, (f n).opcode = op ∧ (f n).operand.mode = r.mode ∧ (f n).operand = .rel n ∧ (f n).wf = offsetFits n ∧
      1 ≤ r.cycles
  | .word f =>
    ∀ a, (f a).opcode = op ∧ (f a).operand.mode = r.mode ∧
      (f a).operand.bytes = [a.setWidth 8, (a >>> 8).setWidth 8] ∧ (f a).wf = true ∧ 1 ≤ r.cycles

/-- Every row of a list builds the instruction of its index, counted from `n`. -/
def rowsBuild : Nat → List Row → Prop
  | _, [] => True
  | n, r :: rows => r.builds (BitVec.ofNat 8 n) ∧ rowsBuild (n + 1) rows

/-- Rows of a list followed by another. -/
theorem rowsBuild_append {n : Nat} {rows more : List Row} (h : rowsBuild n rows)
    (h' : rowsBuild (n + rows.length) more) : rowsBuild n (rows ++ more) := by
  induction rows generalizing n with
  | nil => exact h'
  | cons r rows ih =>
    refine ⟨h.1, ih h.2 ?_⟩
    rw [List.length_cons] at h'
    rwa [show n + 1 + rows.length = n + (rows.length + 1) by omega]

theorem rows0_build : rowsBuild 0 rows0 := by
  refine ⟨?_, ?_, ?_, ?_, ?_, ?_, ?_, ?_, ?_, ?_, ?_, ?_, ?_, ?_, ?_, ?_, trivial⟩ <;>
    first | exact ⟨rfl, rfl, rfl, rfl, by decide⟩ | exact fun _ => ⟨rfl, rfl, rfl, rfl, by decide⟩

theorem rows1_build : rowsBuild 16 rows1 := by
  refine ⟨?_, ?_, ?_, ?_, ?_, ?_, ?_, ?_, ?_, ?_, ?_, ?_, ?_, ?_, ?_, ?_, trivial⟩ <;>
    first | exact ⟨rfl, rfl, rfl, rfl, by decide⟩ | exact fun _ => ⟨rfl, rfl, rfl, rfl, by decide⟩

theorem rows2_build : rowsBuild 32 rows2 := by
  refine ⟨?_, ?_, ?_, ?_, ?_, ?_, ?_, ?_, ?_, ?_, ?_, ?_, ?_, ?_, ?_, ?_, trivial⟩ <;>
    first | exact ⟨rfl, rfl, rfl, rfl, by decide⟩ | exact fun _ => ⟨rfl, rfl, rfl, rfl, by decide⟩

theorem rows3_build : rowsBuild 48 rows3 := by
  refine ⟨?_, ?_, ?_, ?_, ?_, ?_, ?_, ?_, ?_, ?_, ?_, ?_, ?_, ?_, ?_, ?_, trivial⟩ <;>
    first | exact ⟨rfl, rfl, rfl, rfl, by decide⟩ | exact fun _ => ⟨rfl, rfl, rfl, rfl, by decide⟩

theorem rows4_build : rowsBuild 64 rows4 := by
  refine ⟨?_, ?_, ?_, ?_, ?_, ?_, ?_, ?_, ?_, ?_, ?_, ?_, ?_, ?_, ?_, ?_, trivial⟩ <;>
    first | exact ⟨rfl, rfl, rfl, rfl, by decide⟩ | exact fun _ => ⟨rfl, rfl, rfl, rfl, by decide⟩

theorem rows5_build : rowsBuild 80 rows5 := by
  refine ⟨?_, ?_, ?_, ?_, ?_, ?_, ?_, ?_, ?_, ?_, ?_, ?_, ?_, ?_, ?_, ?_, trivial⟩ <;>
    first | exact ⟨rfl, rfl, rfl, rfl, by decide⟩ | exact fun _ => ⟨rfl, rfl, rfl, rfl, by decide⟩

theorem rows6_build : rowsBuild 96 rows6 := by
  refine ⟨?_, ?_, ?_, ?_, ?_, ?_, ?_, ?_, ?_, ?_, ?_, ?_, ?_, ?_, ?_, ?_, trivial⟩ <;>
    first | exact ⟨rfl, rfl, rfl, rfl, by decide⟩ | exact fun _ => ⟨rfl, rfl, rfl, rfl, by decide⟩

theorem rows7_build : rowsBuild 112 rows7 := by
  refine ⟨?_, ?_, ?_, ?_, ?_, ?_, ?_, ?_, ?_, ?_, ?_, ?_, ?_, ?_, ?_, ?_, trivial⟩ <;>
    first | exact ⟨rfl, rfl, rfl, rfl, by decide⟩ | exact fun _ => ⟨rfl, rfl, rfl, rfl, by decide⟩

theorem rows8_build : rowsBuild 128 rows8 := by
  refine ⟨?_, ?_, ?_, ?_, ?_, ?_, ?_, ?_, ?_, ?_, ?_, ?_, ?_, ?_, ?_, ?_, trivial⟩ <;>
    first | exact ⟨rfl, rfl, rfl, rfl, by decide⟩ | exact fun _ => ⟨rfl, rfl, rfl, rfl, by decide⟩

theorem rows9_build : rowsBuild 144 rows9 := by
  refine ⟨?_, ?_, ?_, ?_, ?_, ?_, ?_, ?_, ?_, ?_, ?_, ?_, ?_, ?_, ?_, ?_, trivial⟩ <;>
    first | exact ⟨rfl, rfl, rfl, rfl, by decide⟩ | exact fun _ => ⟨rfl, rfl, rfl, rfl, by decide⟩

theorem rowsA_build : rowsBuild 160 rowsA := by
  refine ⟨?_, ?_, ?_, ?_, ?_, ?_, ?_, ?_, ?_, ?_, ?_, ?_, ?_, ?_, ?_, ?_, trivial⟩ <;>
    first | exact ⟨rfl, rfl, rfl, rfl, by decide⟩ | exact fun _ => ⟨rfl, rfl, rfl, rfl, by decide⟩

theorem rowsB_build : rowsBuild 176 rowsB := by
  refine ⟨?_, ?_, ?_, ?_, ?_, ?_, ?_, ?_, ?_, ?_, ?_, ?_, ?_, ?_, ?_, ?_, trivial⟩ <;>
    first | exact ⟨rfl, rfl, rfl, rfl, by decide⟩ | exact fun _ => ⟨rfl, rfl, rfl, rfl, by decide⟩

theorem rowsC_build : rowsBuild 192 rowsC := by
  refine ⟨?_, ?_, ?_, ?_, ?_, ?_, ?_, ?_, ?_, ?_, ?_, ?_, ?_, ?_, ?_, ?_, trivial⟩ <;>
    first | exact ⟨rfl, rfl, rfl, rfl, by decide⟩ | exact fun _ => ⟨rfl, rfl, rfl, rfl, by decide⟩

theorem rowsD_build : rowsBuild 208 rowsD := by
  refine ⟨?_, ?_, ?_, ?_, ?_, ?_, ?_, ?_, ?_, ?_, ?_, ?_, ?_, ?_, ?_, ?_, trivial⟩ <;>
    first | exact ⟨rfl, rfl, rfl, rfl, by decide⟩ | exact fun _ => ⟨rfl, rfl, rfl, rfl, by decide⟩

theorem rowsE_build : rowsBuild 224 rowsE := by
  refine ⟨?_, ?_, ?_, ?_, ?_, ?_, ?_, ?_, ?_, ?_, ?_, ?_, ?_, ?_, ?_, ?_, trivial⟩ <;>
    first | exact ⟨rfl, rfl, rfl, rfl, by decide⟩ | exact fun _ => ⟨rfl, rfl, rfl, rfl, by decide⟩

theorem rowsF_build : rowsBuild 240 rowsF := by
  refine ⟨?_, ?_, ?_, ?_, ?_, ?_, ?_, ?_, ?_, ?_, ?_, ?_, ?_, ?_, ?_, ?_, trivial⟩ <;>
    first | exact ⟨rfl, rfl, rfl, rfl, by decide⟩ | exact fun _ => ⟨rfl, rfl, rfl, rfl, by decide⟩

/-- All 256 rows. -/
theorem opcodeTable_build : rowsBuild 0 opcodeTable :=
  rowsBuild_append rows0_build (rowsBuild_append rows1_build (rowsBuild_append rows2_build (rowsBuild_append rows3_build (
  rowsBuild_append rows4_build (rowsBuild_append rows5_build (rowsBuild_append rows6_build (rowsBuild_append rows7_build (
  rowsBuild_append rows8_build (rowsBuild_append rows9_build (rowsBuild_append rowsA_build (rowsBuild_append rowsB_build (
  rowsBuild_append rowsC_build (rowsBuild_append rowsD_build (rowsBuild_append rowsE_build (rowsF_build)))))))))))))))

/-- One row of a list that builds its index. -/
theorem rowsBuild_getElem {n : Nat} {rows : List Row} (h : rowsBuild n rows) (k : Nat) (hk : k < rows.length) :
    (rows[k]).builds (BitVec.ofNat 8 (n + k)) := by
  induction rows generalizing n k with
  | nil => exact absurd hk (Nat.not_lt_zero k)
  | cons r rows ih =>
    cases k with
    | zero => exact h.1
    | succ k =>
      have := ih h.2 k (Nat.lt_of_succ_lt_succ hk)
      rwa [show n + 1 + k = n + (k + 1) by omega] at this

/-- The row of an opcode builds the instruction of that opcode. -/
theorem rowOf_builds (op : Byte) : (rowOf op).builds op := by
  have h := op.isLt
  have := rowsBuild_getElem opcodeTable_build op.toNat (by rw [opcodeTable_length]; omega)
  rwa [Nat.zero_add, BitVec.ofNat_toNat, BitVec.setWidth_eq] at this

end Sys2Proof
end

