-- ==== Sys2Proof/Laws/Fetch.lean ====
section
/-! SUPPORT. Fetching an instruction: from memory it reads the bytes at PC and nothing else happens (R150, R151); from any address
it changes no memory. -/

namespace Sys2Proof.Machine

open Sys2Proof.Claim

/-- The length of an instruction is that of its encoding (R120, R121). -/
theorem length_encode (i : Instr) : (encode i).length = i.length := by
  unfold encode Instr.length
  cases i.operand <;> rfl

/-- The state once an opcode byte and the operand bytes of an instruction of `n` bytes are read from memory. -/
def fetchedFrom (op : Byte) (n : Nat) (s : State) : State :=
  { s with cpu := { s.cpu with opcode := op, p := s.cpu.p ||| 0x20#8, pc := s.cpu.pc + BitVec.ofNat 16 n } }

theorem fetchOpcode_memory {s : State} (h : isMemory s.cpu.pc = true) :
    fetchOpcode s = fetchedFrom (peek s.cpu.pc s) 1 s := by
  unfold fetchOpcode
  rw [memRead_memory s h]
  rfl

theorem fetchByte_memory {s : State} (h : isMemory s.cpu.pc = true) :
    fetchByte s = (peek s.cpu.pc s, s.setPc (s.cpu.pc + 1#16)) := by
  unfold fetchByte
  rw [memRead_memory s h]
  rfl

theorem fetchOperandByte_memory {s : State} (r : Row) (h : isMemory s.cpu.pc = true) :
    fetchOperandByte r s = (peek s.cpu.pc s, s.setPc (s.cpu.pc + 1#16)) := by
  unfold fetchOperandByte
  rw [fetchByte_memory h]
  split <;> rfl

/-- The spec lemma of the fetch from memory: the decoded instruction, PC past it, nothing else. -/
theorem fetchInstr_memory {i : Instr} {s : State} {rest : List Byte}
    (hm : ∀ k, k < i.length → isMemory (s.cpu.pc + BitVec.ofNat 16 k) = true)
    (hd : decode [peek s.cpu.pc s, peek (s.cpu.pc + 1#16) s, peek (s.cpu.pc + 2#16) s] = .ok (i, rest)) :
    fetchInstr s = (i, fetchedFrom i.opcode i.length s) := by
  have hlen : ∀ j : Instr, j.length = j.operand.bytes.length + 1 := fun j => (length_encode j).symm
  have h0 : isMemory s.cpu.pc = true := by simpa using hm 0 (by rw [hlen]; omega)
  have a2 : s.cpu.pc + 1#16 + 1#16 = s.cpu.pc + 2#16 := by bv_omega
  have a3 : s.cpu.pc + 1#16 + 1#16 + 1#16 = s.cpu.pc + 3#16 := by bv_omega
  have hb := rowOf_builds (peek s.cpu.pc s)
  unfold fetchInstr
  rw [fetchOpcode_memory h0]
  unfold Row.builds at hb
  simp only [decode] at hd
  simp only [fetchedFrom]
  cases hrb : (rowOf (peek s.cpu.pc s)).build with
  | implied j =>
    simp only [hrb] at hd hb ⊢
    cases hd
    rw [hlen, hb.2.2.1, hb.1]
    rfl
  | byte f =>
    simp only [hrb] at hd hb ⊢
    cases hd
    have hb := hb (peek (s.cpu.pc + 1#16) s)
    rw [hlen, hb.2.2.1] at hm ⊢
    rw [fetchOperandByte_memory _ (hm 1 (Nat.le_refl 2)), hb.1]
    simp only [State.setPc]
    refine Prod.ext rfl ?_
    simp only [a2, List.length_cons, List.length_nil, Nat.zero_add, Nat.reduceAdd]
  | offset f =>
    simp only [hrb] at hd hb ⊢
    cases hd
    have hb := hb (peek (s.cpu.pc + 1#16) s).toInt
    rw [hlen, hb.2.2.1] at hm ⊢
    rw [fetchByte_memory (hm 1 (Nat.le_refl 2)), hb.1]
    simp only [State.setPc]
    refine Prod.ext rfl ?_
    simp only [a2, Operand.bytes, List.length_cons, List.length_nil, Nat.zero_add, Nat.reduceAdd]
  | word f =>
    simp only [hrb] at hd hb ⊢
    cases hd
    have hb := hb (peek (s.cpu.pc + 2#16) s ++ peek (s.cpu.pc + 1#16) s)
    rw [hlen, hb.2.2.1] at hm ⊢
    have h2 : isMemory (s.cpu.pc + 1#16 + 1#16) = true := by rw [a2]; exact hm 2 (Nat.le_refl 3)
    rw [fetchByte_memory (hm 1 (Nat.le_succ 2)), fetchByte_memory (s := State.setPc _ _) h2, hb.1]
    refine Prod.ext ?_ ?_
    · show f (wordOf (peek (s.cpu.pc + 1#16) s) (peek (s.cpu.pc + 1#16 + 1#16) s)) = _
      rw [a2]
      rfl
    · simp only [State.setPc, a3, List.length_cons, List.length_nil, Nat.zero_add, Nat.reduceAdd]

/-! ### The fetch from any address -/

/-- `t` has the memories, the cartridge and the parameters of `s`. -/
def SameMemories (t s : State) : Prop :=
  t.bus.ram = s.bus.ram ∧ t.cart = s.cart ∧ t.config = s.config ∧ PpuMemoriesKept t s

theorem SameMemories.refl (s : State) : SameMemories s s := ⟨rfl, rfl, rfl, ppuMemoriesKept_of rfl⟩

theorem SameMemories.trans {a b c : State} (h : SameMemories a b) (h' : SameMemories b c) : SameMemories a c := by
  obtain ⟨h1, h2, h3, k1, k2, k3, k4, k5, k6, k7⟩ := h
  obtain ⟨g1, g2, g3, l1, l2, l3, l4, l5, l6, l7⟩ := h'
  exact ⟨h1.trans g1, h2.trans g2, h3.trans g3, k1.trans l1, k2.trans l2, k3.trans l3, k4.trans l4, k5.trans l5,
    k6.trans l6, k7.trans l7⟩

theorem memRead_sameMemories (a : Word) (s : State) : SameMemories (memRead a s).2 s :=
  ⟨memRead_ram a s, memRead_cart a s, memRead_config a s, memRead_ppuMemories a s⟩

theorem fetchByte_sameMemories (s : State) : SameMemories (fetchByte s).2 s :=
  .trans (b := (memRead s.cpu.pc s).2) (.refl _) (memRead_sameMemories _ s)

theorem fetchOpcode_sameMemories (s : State) : SameMemories (fetchOpcode s) s :=
  .trans (b := (memRead s.cpu.pc s).2) (.refl _) (memRead_sameMemories _ s)

theorem fetchOperandByte_sameMemories (r : Row) (s : State) : SameMemories (fetchOperandByte r s).2 s := by
  unfold fetchOperandByte
  split
  · exact .refl s
  · exact fetchByte_sameMemories s

/-- A fetch changes no memory, wherever PC points. -/
theorem fetchInstr_sameMemories (s : State) : SameMemories (fetchInstr s).2 s := by
  refine .trans ?_ (fetchOpcode_sameMemories s)
  unfold fetchInstr
  simp only
  split
  · exact .refl _
  · exact fetchOperandByte_sameMemories _ _
  · exact fetchByte_sameMemories _
  · exact .trans (fetchByte_sameMemories _) (fetchByte_sameMemories _)

end Sys2Proof.Machine
end

