-- ==== Sys2Proof/Laws/Loopy.lean ====
section
/-! SUPPORT. The fields of the loopy registers as numbers: what a field reads, and the register after a field is written (R37). -/

namespace Sys2Proof.Machine

/-! ### Reading -/

theorem coarseX_toNat (v : Loopy) : (coarseX v).toNat = v.toNat % 32 := by
  simp [coarseX, BitVec.extractLsb'_toNat]

theorem coarseY_toNat (v : Loopy) : (coarseY v).toNat = v.toNat / 32 % 32 := by
  simp [coarseY, BitVec.extractLsb'_toNat, Nat.shiftRight_eq_div_pow]

theorem fineY_toNat (v : Loopy) : (fineY v).toNat = v.toNat / 4096 := by
  have := v.isLt
  simp only [fineY, BitVec.extractLsb'_toNat, Nat.shiftRight_eq_div_pow]
  omega

/-- A bit of a bit vector as a number. -/
theorem getLsbD_eq_decide {w : Nat} (v : BitVec w) (k : Nat) :
    v.getLsbD k = decide (v.toNat / 2 ^ k % 2 = 1) := by
  rw [BitVec.getLsbD, Nat.testBit_eq_decide_div_mod_eq]

theorem nametableX_eq (v : Loopy) : nametableX v = decide (v.toNat / 1024 % 2 = 1) := getLsbD_eq_decide v 10

theorem nametableY_eq (v : Loopy) : nametableY v = decide (v.toNat / 2048 % 2 = 1) := getLsbD_eq_decide v 11

/-! ### Writing -/

/-- Replacing the field of width `w` at bit `lo` of a register by the number `f`. -/
theorem writeField_toNat (lo w : Nat) (mask x v : Loopy) {f : Nat} (hf : f < 2 ^ w) (hw : lo + w ≤ 15)
    (hm : ∀ j, j < 15 → mask.getLsbD j = (decide (j < lo) || decide (lo + w ≤ j))) (hx : x.toNat = 2 ^ lo * f) :
    ((v &&& mask) ||| x).toNat = v.toNat / 2 ^ (lo + w) * 2 ^ (lo + w) + 2 ^ lo * f + v.toNat % 2 ^ lo := by
  have hr : v.toNat / 2 ^ (lo + w) * 2 ^ (lo + w) + 2 ^ lo * f + v.toNat % 2 ^ lo =
      2 ^ lo * (2 ^ w * (v.toNat / 2 ^ (lo + w)) + f) + v.toNat % 2 ^ lo := by
    rw [Nat.pow_add]
    ring
  rw [hr]
  apply Nat.eq_of_testBit_eq
  intro j
  rw [Nat.testBit_two_pow_mul_add _ (Nat.mod_lt _ (Nat.two_pow_pos lo)), Nat.testBit_two_pow_mul_add _ hf]
  have hl : ((v &&& mask) ||| x).toNat.testBit j = ((v.toNat.testBit j && mask.getLsbD j) || x.toNat.testBit j) := by
    rw [BitVec.toNat_or, BitVec.toNat_and, Nat.testBit_or, Nat.testBit_and]
    rfl
  rw [hl, hx]
  have hx' : (2 ^ lo * f).testBit j = if j < lo then false else f.testBit (j - lo) := by
    have := Nat.testBit_two_pow_mul_add f (Nat.two_pow_pos lo) j
    rw [Nat.add_zero, Nat.zero_testBit] at this
    exact this
  rw [hx']
  by_cases h15 : j < 15
  · rw [hm j h15]
    by_cases h1 : j < lo
    · simp [h1, Nat.testBit_mod_two_pow]
    · by_cases h2 : lo + w ≤ j
      · rw [if_neg h1, if_neg h1, if_neg (by omega), Nat.testBit_div_two_pow,
          Nat.testBit_eq_false_of_lt (i := j - lo) (Nat.lt_of_lt_of_le hf (Nat.pow_le_pow_right (by decide) (by omega)))]
        rw [show j - lo - w + (lo + w) = j by omega]
        simp [h2]
      · rw [if_neg h1, if_neg h1, if_pos (by omega)]
        simp [h1, h2]
  · have hv : v.toNat.testBit j = false :=
      Nat.testBit_eq_false_of_lt (Nat.lt_of_lt_of_le v.isLt (Nat.pow_le_pow_right (by decide) (by omega)))
    rw [hv, if_neg (by omega), if_neg (by omega)]
    by_cases h2 : j - lo < w
    · omega
    · rw [if_neg h2, Nat.testBit_div_two_pow, show j - lo - w + (lo + w) = j by omega, hv,
        Nat.testBit_eq_false_of_lt (i := j - lo) (Nat.lt_of_lt_of_le hf (Nat.pow_le_pow_right (by decide) (by omega)))]
      rfl

theorem withCoarseX_toNat (f : BitVec 5) (v : Loopy) :
    (withCoarseX f v).toNat = v.toNat / 32 * 32 + f.toNat := by
  have h := writeField_toNat 0 5 0x7FE0#15 (f.setWidth 15) v f.isLt (by decide) (by decide) (by simp; omega)
  rw [withCoarseX, h, Nat.pow_zero, Nat.mod_one, Nat.one_mul]
  rfl

theorem withCoarseY_toNat (f : BitVec 5) (v : Loopy) :
    (withCoarseY f v).toNat = v.toNat / 1024 * 1024 + 32 * f.toNat + v.toNat % 32 := by
  have hf := f.isLt
  exact writeField_toNat 5 5 0x7C1F#15 (f.setWidth 15 <<< 5) v f.isLt (by decide) (by decide)
    (by simp [Nat.shiftLeft_eq]; omega)

theorem withFineY_toNat (f : BitVec 3) (v : Loopy) :
    (withFineY f v).toNat = 4096 * f.toNat + v.toNat % 4096 := by
  have hf := f.isLt
  have hv := v.isLt
  have h := writeField_toNat 12 3 0x0FFF#15 (f.setWidth 15 <<< 12) v f.isLt (by decide) (by decide)
    (by simp [Nat.shiftLeft_eq]; omega)
  rw [withFineY, h, Nat.div_eq_of_lt hv]
  omega

theorem withNametableX_toNat (on : Bool) (v : Loopy) :
    (withNametableX on v).toNat = v.toNat / 2048 * 2048 + 1024 * on.toNat + v.toNat % 1024 :=
  writeField_toNat 10 1 0x7BFF#15 _ v (f := on.toNat) (by cases on <;> decide) (by decide) (by decide)
    (by cases on <;> rfl)

theorem withNametableY_toNat (on : Bool) (v : Loopy) :
    (withNametableY on v).toNat = v.toNat / 4096 * 4096 + 2048 * on.toNat + v.toNat % 2048 :=
  writeField_toNat 11 1 0x77FF#15 _ v (f := on.toNat) (by cases on <;> decide) (by decide) (by decide)
    (by cases on <;> rfl)

end Sys2Proof.Machine
end

