-- ==== Sys2Proof/Laws/PerInstr.lean ====
section
/-! SUPPORT. Per instruction: the row of its opcode is its own (spec/30_encoding.md rules R123, R124, R126). -/

namespace Sys2Proof

/-- What a row builds from an operand of its mode. -/
def Row.rebuild (r : Row) (o : Operand) : Option Instr :=
  if r.mode = o.mode then
    match r.build, o with
    | .implied i, .imp => some i
    | .byte f, .imm b | .byte f, .zp0 b | .byte f, .zpx b | .byte f, .zpy b | .byte f, .izx b | .byte f, .izy b =>
      some (f b)
    | .offset f, .rel n => some (f n)
    | .word f, .abs a | .word f, .abx a | .word f, .aby a | .word f, .ind a => some (f a)
    | _, _ => none
  else none

end Sys2Proof

/-- The row of an instruction's opcode has the instruction's mode and builds the instruction from its operand. -/
def Sys2Proof.Laws.RowMatches.Statement (i : Sys2Proof.Instr) : Prop :=
  (Sys2Proof.rowOf i.opcode).rebuild i.operand = some i

namespace Sys2Proof.Laws.RowMatches

theorem brk : Statement .brk := rfl
theorem oraIzx (z : Byte) : Statement (.oraIzx z) := rfl
theorem filler02 : Statement .filler02 := rfl
theorem filler03 : Statement .filler03 := rfl
theorem nopZp004 (z : Byte) : Statement (.nopZp004 z) := rfl
theorem oraZp0 (z : Byte) : Statement (.oraZp0 z) := rfl
theorem aslZp0 (z : Byte) : Statement (.aslZp0 z) := rfl
theorem filler07 : Statement .filler07 := rfl
theorem php : Statement .php := rfl
theorem oraImm (b : Byte) : Statement (.oraImm b) := rfl
theorem aslAcc : Statement .aslAcc := rfl
theorem filler0B : Statement .filler0B := rfl
theorem nopAbs0C (a : Word) : Statement (.nopAbs0C a) := rfl
theorem oraAbs (a : Word) : Statement (.oraAbs a) := rfl
theorem aslAbs (a : Word) : Statement (.aslAbs a) := rfl
theorem filler0F : Statement .filler0F := rfl
theorem bpl (r : Int) : Statement (.bpl r) := rfl
theorem oraIzy (z : Byte) : Statement (.oraIzy z) := rfl
theorem filler12 : Statement .filler12 := rfl
theorem filler13 : Statement .filler13 := rfl
theorem nopZpx14 (z : Byte) : Statement (.nopZpx14 z) := rfl
theorem oraZpx (z : Byte) : Statement (.oraZpx z) := rfl
theorem aslZpx (z : Byte) : Statement (.aslZpx z) := rfl
theorem filler17 : Statement .filler17 := rfl
theorem clc : Statement .clc := rfl
theorem oraAby (a : Word) : Statement (.oraAby a) := rfl
theorem nopImp1A : Statement .nopImp1A := rfl
theorem filler1B : Statement .filler1B := rfl
theorem nopAbx1C (a : Word) : Statement (.nopAbx1C a) := rfl
theorem oraAbx (a : Word) : Statement (.oraAbx a) := rfl
theorem aslAbx (a : Word) : Statement (.aslAbx a) := rfl
theorem filler1F : Statement .filler1F := rfl
theorem jsr (a : Word) : Statement (.jsr a) := rfl
theorem andIzx (z : Byte) : Statement (.andIzx z) := rfl
theorem filler22 : Statement .filler22 := rfl
theorem filler23 : Statement .filler23 := rfl
theorem bitZp0 (z : Byte) : Statement (.bitZp0 z) := rfl
theorem andZp0 (z : Byte) : Statement (.andZp0 z) := rfl
theorem rolZp0 (z : Byte) : Statement (.rolZp0 z) := rfl
theorem filler27 : Statement .filler27 := rfl
theorem plp : Statement .plp := rfl
theorem andImm (b : Byte) : Statement (.andImm b) := rfl
theorem rolAcc : Statement .rolAcc := rfl
theorem filler2B : Statement .filler2B := rfl
theorem bitAbs (a : Word) : Statement (.bitAbs a) := rfl
theorem andAbs (a : Word) : Statement (.andAbs a) := rfl
theorem rolAbs (a : Word) : Statement (.rolAbs a) := rfl
theorem filler2F : Statement .filler2F := rfl
theorem bmi (r : Int) : Statement (.bmi r) := rfl
theorem andIzy (z : Byte) : Statement (.andIzy z) := rfl
theorem filler32 : Statement .filler32 := rfl
theorem filler33 : Statement .filler33 := rfl
theorem nopZpx34 (z : Byte) : Statement (.nopZpx34 z) := rfl
theorem andZpx (z : Byte) : Statement (.andZpx z) := rfl
theorem rolZpx (z : Byte) : Statement (.rolZpx z) := rfl
theorem filler37 : Statement .filler37 := rfl
theorem sec : Statement .sec := rfl
theorem andAby (a : Word) : Statement (.andAby a) := rfl
theorem nopImp3A : Statement .nopImp3A := rfl
theorem filler3B : Statement .filler3B := rfl
theorem nopAbx3C (a : Word) : Statement (.nopAbx3C a) := rfl
theorem andAbx (a : Word) : Statement (.andAbx a) := rfl
theorem rolAbx (a : Word) : Statement (.rolAbx a) := rfl
theorem filler3F : Statement .filler3F := rfl
theorem rti : Statement .rti := rfl
theorem eorIzx (z : Byte) : Statement (.eorIzx z) := rfl
theorem filler42 : Statement .filler42 := rfl
theorem filler43 : Statement .filler43 := rfl
theorem nopZp044 (z : Byte) : Statement (.nopZp044 z) := rfl
theorem eorZp0 (z : Byte) : Statement (.eorZp0 z) := rfl
theorem lsrZp0 (z : Byte) : Statement (.lsrZp0 z) := rfl
theorem filler47 : Statement .filler47 := rfl
theorem pha : Statement .pha := rfl
theorem eorImm (b : Byte) : Statement (.eorImm b) := rfl
theorem lsrAcc : Statement .lsrAcc := rfl
theorem filler4B : Statement .filler4B := rfl
theorem jmpAbs (a : Word) : Statement (.jmpAbs a) := rfl
theorem eorAbs (a : Word) : Statement (.eorAbs a) := rfl
theorem lsrAbs (a : Word) : Statement (.lsrAbs a) := rfl
theorem filler4F : Statement .filler4F := rfl
theorem bvc (r : Int) : Statement (.bvc r) := rfl
theorem eorIzy (z : Byte) : Statement (.eorIzy z) := rfl
theorem filler52 : Statement .filler52 := rfl
theorem filler53 : Statement .filler53 := rfl
theorem nopZpx54 (z : Byte) : Statement (.nopZpx54 z) := rfl
theorem eorZpx (z : Byte) : Statement (.eorZpx z) := rfl
theorem lsrZpx (z : Byte) : Statement (.lsrZpx z) := rfl
theorem filler57 : Statement .filler57 := rfl
theorem cli : Statement .cli := rfl
theorem eorAby (a : Word) : Statement (.eorAby a) := rfl
theorem nopImp5A : Statement .nopImp5A := rfl
theorem filler5B : Statement .filler5B := rfl
theorem nopAbx5C (a : Word) : Statement (.nopAbx5C a) := rfl
theorem eorAbx (a : Word) : Statement (.eorAbx a) := rfl
theorem lsrAbx (a : Word) : Statement (.lsrAbx a) := rfl
theorem filler5F : Statement .filler5F := rfl
theorem rts : Statement .rts := rfl
theorem adcIzx (z : Byte) : Statement (.adcIzx z) := rfl
theorem filler62 : Statement .filler62 := rfl
theorem filler63 : Statement .filler63 := rfl
theorem nopZp064 (z : Byte) : Statement (.nopZp064 z) := rfl
theorem adcZp0 (z : Byte) : Statement (.adcZp0 z) := rfl
theorem rorZp0 (z : Byte) : Statement (.rorZp0 z) := rfl
theorem filler67 : Statement .filler67 := rfl
theorem pla : Statement .pla := rfl
theorem adcImm (b : Byte) : Statement (.adcImm b) := rfl
theorem rorAcc : Statement .rorAcc := rfl
theorem filler6B : Statement .filler6B := rfl
theorem jmpInd (a : Word) : Statement (.jmpInd a) := rfl
theorem adcAbs (a : Word) : Statement (.adcAbs a) := rfl
theorem rorAbs (a : Word) : Statement (.rorAbs a) := rfl
theorem filler6F : Statement .filler6F := rfl
theorem bvs (r : Int) : Statement (.bvs r) := rfl
theorem adcIzy (z : Byte) : Statement (.adcIzy z) := rfl
theorem filler72 : Statement .filler72 := rfl
theorem filler73 : Statement .filler73 := rfl
theorem nopZpx74 (z : Byte) : Statement (.nopZpx74 z) := rfl
theorem adcZpx (z : Byte) : Statement (.adcZpx z) := rfl
theorem rorZpx (z : Byte) : Statement (.rorZpx z) := rfl
theorem filler77 : Statement .filler77 := rfl
theorem sei : Statement .sei := rfl
theorem adcAby (a : Word) : Statement (.adcAby a) := rfl
theorem nopImp7A : Statement .nopImp7A := rfl
theorem filler7B : Statement .filler7B := rfl
theorem nopAbx7C (a : Word) : Statement (.nopAbx7C a) := rfl
theorem adcAbx (a : Word) : Statement (.adcAbx a) := rfl
theorem rorAbx (a : Word) : Statement (.rorAbx a) := rfl
theorem filler7F : Statement .filler7F := rfl
theorem nopImm80 (b : Byte) : Statement (.nopImm80 b) := rfl
theorem staIzx (z : Byte) : Statement (.staIzx z) := rfl
theorem nopImm82 (b : Byte) : Statement (.nopImm82 b) := rfl
theorem filler83 : Statement .filler83 := rfl
theorem styZp0 (z : Byte) : Statement (.styZp0 z) := rfl
theorem staZp0 (z : Byte) : Statement (.staZp0 z) := rfl
theorem stxZp0 (z : Byte) : Statement (.stxZp0 z) := rfl
theorem filler87 : Statement .filler87 := rfl
theorem dey : Statement .dey := rfl
theorem nopImm89 (b : Byte) : Statement (.nopImm89 b) := rfl
theorem txa : Statement .txa := rfl
theorem filler8B : Statement .filler8B := rfl
theorem styAbs (a : Word) : Statement (.styAbs a) := rfl
theorem staAbs (a : Word) : Statement (.staAbs a) := rfl
theorem stxAbs (a : Word) : Statement (.stxAbs a) := rfl
theorem filler8F : Statement .filler8F := rfl
theorem bcc (r : Int) : Statement (.bcc r) := rfl
theorem staIzy (z : Byte) : Statement (.staIzy z) := rfl
theorem filler92 : Statement .filler92 := rfl
theorem filler93 : Statement .filler93 := rfl
theorem styZpx (z : Byte) : Statement (.styZpx z) := rfl
theorem staZpx (z : Byte) : Statement (.staZpx z) := rfl
theorem stxZpy (z : Byte) : Statement (.stxZpy z) := rfl
theorem filler97 : Statement .filler97 := rfl
theorem tya : Statement .tya := rfl
theorem staAby (a : Word) : Statement (.staAby a) := rfl
theorem txs : Statement .txs := rfl
theorem filler9B : Statement .filler9B := rfl
theorem filler9C : Statement .filler9C := rfl
theorem staAbx (a : Word) : Statement (.staAbx a) := rfl
theorem filler9E : Statement .filler9E := rfl
theorem filler9F : Statement .filler9F := rfl
theorem ldyImm (b : Byte) : Statement (.ldyImm b) := rfl
theorem ldaIzx (z : Byte) : Statement (.ldaIzx z) := rfl
theorem ldxImm (b : Byte) : Statement (.ldxImm b) := rfl
theorem fillerA3 : Statement .fillerA3 := rfl
theorem ldyZp0 (z : Byte) : Statement (.ldyZp0 z) := rfl
theorem ldaZp0 (z : Byte) : Statement (.ldaZp0 z) := rfl
theorem ldxZp0 (z : Byte) : Statement (.ldxZp0 z) := rfl
theorem fillerA7 : Statement .fillerA7 := rfl
theorem tay : Statement .tay := rfl
theorem ldaImm (b : Byte) : Statement (.ldaImm b) := rfl
theorem tax : Statement .tax := rfl
theorem fillerAB : Statement .fillerAB := rfl
theorem ldyAbs (a : Word) : Statement (.ldyAbs a) := rfl
theorem ldaAbs (a : Word) : Statement (.ldaAbs a) := rfl
theorem ldxAbs (a : Word) : Statement (.ldxAbs a) := rfl
theorem fillerAF : Statement .fillerAF := rfl
theorem bcs (r : Int) : Statement (.bcs r) := rfl
theorem ldaIzy (z : Byte) : Statement (.ldaIzy z) := rfl
theorem fillerB2 : Statement .fillerB2 := rfl
theorem fillerB3 : Statement .fillerB3 := rfl
theorem ldyZpx (z : Byte) : Statement (.ldyZpx z) := rfl
theorem ldaZpx (z : Byte) : Statement (.ldaZpx z) := rfl
theorem ldxZpy (z : Byte) : Statement (.ldxZpy z) := rfl
theorem fillerB7 : Statement .fillerB7 := rfl
theorem clv : Statement .clv := rfl
theorem ldaAby (a : Word) : Statement (.ldaAby a) := rfl
theorem tsx : Statement .tsx := rfl
theorem fillerBB : Statement .fillerBB := rfl
theorem ldyAbx (a : Word) : Statement (.ldyAbx a) := rfl
theorem ldaAbx (a : Word) : Statement (.ldaAbx a) := rfl
theorem ldxAby (a : Word) : Statement (.ldxAby a) := rfl
theorem fillerBF : Statement .fillerBF := rfl
theorem cpyImm (b : Byte) : Statement (.cpyImm b) := rfl
theorem cmpIzx (z : Byte) : Statement (.cmpIzx z) := rfl
theorem nopImmC2 (b : Byte) : Statement (.nopImmC2 b) := rfl
theorem fillerC3 : Statement .fillerC3 := rfl
theorem cpyZp0 (z : Byte) : Statement (.cpyZp0 z) := rfl
theorem cmpZp0 (z : Byte) : Statement (.cmpZp0 z) := rfl
theorem decZp0 (z : Byte) : Statement (.decZp0 z) := rfl
theorem fillerC7 : Statement .fillerC7 := rfl
theorem iny : Statement .iny := rfl
theorem cmpImm (b : Byte) : Statement (.cmpImm b) := rfl
theorem dex : Statement .dex := rfl
theorem fillerCB : Statement .fillerCB := rfl
theorem cpyAbs (a : Word) : Statement (.cpyAbs a) := rfl
theorem cmpAbs (a : Word) : Statement (.cmpAbs a) := rfl
theorem decAbs (a : Word) : Statement (.decAbs a) := rfl
theorem fillerCF : Statement .fillerCF := rfl
theorem bne (r : Int) : Statement (.bne r) := rfl
theorem cmpIzy (z : Byte) : Statement (.cmpIzy z) := rfl
theorem fillerD2 : Statement .fillerD2 := rfl
theorem fillerD3 : Statement .fillerD3 := rfl
theorem nopZpxD4 (z : Byte) : Statement (.nopZpxD4 z) := rfl
theorem cmpZpx (z : Byte) : Statement (.cmpZpx z) := rfl
theorem decZpx (z : Byte) : Statement (.decZpx z) := rfl
theorem fillerD7 : Statement .fillerD7 := rfl
theorem cld : Statement .cld := rfl
theorem cmpAby (a : Word) : Statement (.cmpAby a) := rfl
theorem nopImpDA : Statement .nopImpDA := rfl
theorem fillerDB : Statement .fillerDB := rfl
theorem nopAbxDC (a : Word) : Statement (.nopAbxDC a) := rfl
theorem cmpAbx (a : Word) : Statement (.cmpAbx a) := rfl
theorem decAbx (a : Word) : Statement (.decAbx a) := rfl
theorem fillerDF : Statement .fillerDF := rfl
theorem cpxImm (b : Byte) : Statement (.cpxImm b) := rfl
theorem sbcIzx (z : Byte) : Statement (.sbcIzx z) := rfl
theorem nopImmE2 (b : Byte) : Statement (.nopImmE2 b) := rfl
theorem fillerE3 : Statement .fillerE3 := rfl
theorem cpxZp0 (z : Byte) : Statement (.cpxZp0 z) := rfl
theorem sbcZp0 (z : Byte) : Statement (.sbcZp0 z) := rfl
theorem incZp0 (z : Byte) : Statement (.incZp0 z) := rfl
theorem fillerE7 : Statement .fillerE7 := rfl
theorem inx : Statement .inx := rfl
theorem sbcImm (b : Byte) : Statement (.sbcImm b) := rfl
theorem nop : Statement .nop := rfl
theorem fillerEB : Statement .fillerEB := rfl
theorem cpxAbs (a : Word) : Statement (.cpxAbs a) := rfl
theorem sbcAbs (a : Word) : Statement (.sbcAbs a) := rfl
theorem incAbs (a : Word) : Statement (.incAbs a) := rfl
theorem fillerEF : Statement .fillerEF := rfl
theorem beq (r : Int) : Statement (.beq r) := rfl
theorem sbcIzy (z : Byte) : Statement (.sbcIzy z) := rfl
theorem fillerF2 : Statement .fillerF2 := rfl
theorem fillerF3 : Statement .fillerF3 := rfl
theorem nopZpxF4 (z : Byte) : Statement (.nopZpxF4 z) := rfl
theorem sbcZpx (z : Byte) : Statement (.sbcZpx z) := rfl
theorem incZpx (z : Byte) : Statement (.incZpx z) := rfl
theorem fillerF7 : Statement .fillerF7 := rfl
theorem sed : Statement .sed := rfl
theorem sbcAby (a : Word) : Statement (.sbcAby a) := rfl
theorem nopImpFA : Statement .nopImpFA := rfl
theorem fillerFB : Statement .fillerFB := rfl
theorem nopAbxFC (a : Word) : Statement (.nopAbxFC a) := rfl
theorem sbcAbx (a : Word) : Statement (.sbcAbx a) := rfl
theorem incAbx (a : Word) : Statement (.incAbx a) := rfl
theorem fillerFF : Statement .fillerFF := rfl

end Sys2Proof.Laws.RowMatches
end

