-- ==== Sys2Proof/Laws/Tick.lean ====
section
/-! SUPPORT. The reset cascade as one equation (R480), the end of a run (R474), and the part of a tick the CPU or the DMA engine plays (R451, R460). -/

namespace Sys2Proof.Machine

open Sys2Proof.Claim

/-- The CPU's part of the reset (R480): the vector is read from PRG space, so nothing else changes. -/
theorem resetCpu_spec (s : State) :
    resetCpu s =
      { s with cpu :=
        { a := 0x00#8, x := 0x00#8, y := 0x00#8, s := 0xFD#8, p := 0x20#8, pc := vectorWord 0xFFFC#16 s, cycles := 8,
          opcode := s.cpu.opcode, addrAbs := 0x0000#16, addrRel := 0x0000#16, fetched := 0x00#8 } } := by
  have hl : 0x8000 ≤ resetVector.toNat := by decide
  have hh : 0x8000 ≤ (resetVector + 1#16).toNat := by decide
  unfold resetCpu
  simp only
  rw [memReadWord_high _ hl hh]
  rfl

/-- The system reset with a cartridge inserted (R480). -/
theorem systemReset_spec {s : State} (h : s.cart ≠ none) :
    systemReset s = .next { resetCpu s with ppu := resetPpu s.ppu, bus := resetBus s.bus } := by
  unfold systemReset
  cases hc : s.cart with
  | none => exact absurd hc h
  | some c =>
    simp only [resetCpu_spec]

/-! ### The parts of a tick -/

/-- The engine steps in every tick of a transfer under EVERY_TICK, and in the CPU's slots otherwise (R460). -/
theorem clockCpuOrDma_dma {s : State} (ht : s.bus.dmaTransfer = true)
    (hm : s.config.dmaTickMode = .everyTick ∨ s.bus.tick % 3 = 0) : clockCpuOrDma s = .next (dmaStep s) := by
  unfold clockCpuOrDma
  split
  · rfl
  · rename_i h
    have hm : s.bus.tick % 3 = 0 := hm.resolve_left (fun e => h ⟨ht, e⟩)
    simp [isCpuSlot, hm]

/-- The CPU is clocked in its slots while no transfer is in progress (R451, R452). -/
theorem clockCpuOrDma_cpu {s : State} (ht : s.bus.dmaTransfer = false) (hm : s.bus.tick % 3 = 0) :
    clockCpuOrDma s = cpuClock s := by
  unfold clockCpuOrDma
  rw [if_neg (by simp [ht]), if_pos (by simp [isCpuSlot, hm]), if_neg (by simp [ht])]

/-- Otherwise the tick is the PPU's alone. -/
theorem clockCpuOrDma_idle {s : State} (hm : s.bus.tick % 3 ≠ 0)
    (ht : s.bus.dmaTransfer = false ∨ s.config.dmaTickMode = .cpuSlot) : clockCpuOrDma s = .next s := by
  unfold clockCpuOrDma
  rw [if_neg (by rcases ht with h | h <;> simp [h]), if_neg (by simp [isCpuSlot, hm])]

/-- A tick with a cartridge inserted (R451). -/
theorem step_eq {s : State} (h : s.cart ≠ none) : step s = Result.andThen (clockCpuOrDma (ppuClock s)) endTick := by
  unfold step systemClock
  cases hc : s.cart with
  | none => exact absurd hc h
  | some c => rfl

/-- The end of a tick without a pending NMI. -/
theorem endTick_quiet {s : State} (h : s.ppu.nmi = false) :
    endTick s = { s with bus := { s.bus with tick := s.bus.tick + 1 } } := by
  unfold endTick
  simp [h]

/-- The end of a tick with a pending NMI: the request is consumed and the NMI taken (R323, R451). -/
theorem endTick_nmi {s : State} (h : s.ppu.nmi = true) :
    endTick s =
      (let t := nmi { s with ppu := { s.ppu with nmi := false } }
       { t with bus := { t.bus with tick := t.bus.tick + 1 } }) := by
  unfold endTick
  rw [if_pos h]

/-- What the CPU's part of a tick can be, as cases: a DMA step, an instruction, a count, or nothing. -/
theorem clockCpuOrDma_cases {s t : State} (h : clockCpuOrDma s = .next t) :
    (s.bus.dmaTransfer = true ∧ t = dmaStep s) ∨
      (s.bus.dmaTransfer = false ∧ s.cpu.cycles = 0 ∧
        ∃ u, exec (fetchInstr s).1 (fetchInstr s).2 = .next u ∧ t = countDown u) ∨
      (s.bus.dmaTransfer = false ∧ s.cpu.cycles ≠ 0 ∧ t = countDown s) ∨ t = s := by
  unfold clockCpuOrDma at h
  split at h
  · rename_i hc
    exact Or.inl ⟨hc.1, (Host.Outcome.next.inj h).symm⟩
  · split at h
    · split at h
      · rename_i hc
        exact Or.inl ⟨hc, (Host.Outcome.next.inj h).symm⟩
      · rename_i hc
        have hd : s.bus.dmaTransfer = false := by simpa using hc
        unfold cpuClock at h
        split at h
        · rename_i hz
          obtain ⟨u, hu, ht⟩ := Result.andThen_eq_next.mp h
          exact Or.inr (Or.inl ⟨hd, hz, u, hu, ht⟩)
        · rename_i hz
          exact Or.inr (Or.inr (Or.inl ⟨hd, hz, (Host.Outcome.next.inj h).symm⟩))
    · exact Or.inr (Or.inr (Or.inr (Host.Outcome.next.inj h).symm))

/-- What a tick can do, as cases. -/
theorem step_next {s t : State} (h : step s = .next t) :
    s.cart ≠ none ∧ ∃ u, clockCpuOrDma (ppuClock s) = .next u ∧ t = endTick u := by
  by_cases hc : s.cart = none
  · unfold step systemClock at h
    rw [hc] at h
    cases h
  · rw [step_eq hc] at h
    exact ⟨hc, Result.andThen_eq_next.mp h⟩

/-- The induction over ticks: a property that bus accesses, a DMA step, a PPU step, consuming the NMI request and counting the
tick keep, is kept by every tick. -/
theorem BusInvariant.step {P : State → Prop} (inv : BusInvariant P) (hp : ∀ s, P s → P (ppuClock s))
    (hd : ∀ s, P s → P (dmaStep s)) (hn : ∀ s : State, P s → P { s with ppu := { s.ppu with nmi := false } })
    (hk : ∀ (n : Nat) (s : State), P s → P { s with bus := { s.bus with tick := n } }) {s t : State} (h : P s)
    (ht : Machine.step s = .next t) : P t := by
  obtain ⟨_, u, hu, rfl⟩ := step_next ht
  have h1 := hp s h
  have h2 : P u := by
    rcases clockCpuOrDma_cases hu with ⟨_, rfl⟩ | ⟨_, _, v, hv, rfl⟩ | ⟨_, _, rfl⟩ | rfl
    · exact hd _ h1
    · exact inv.of (inv.exec (inv.fetchInstr h1) hv) rfl
    · exact inv.of h1 rfl
    · exact h1
  unfold endTick
  simp only
  split
  · exact hk _ _ (inv.nmi (hn _ h2))
  · exact hk _ _ h2

/-! ### The end of a run -/

/-- A run ends where it is when it has no tick left or is at the instruction start of its `end_pc` (R474). -/
theorem clockToEnd_stops {endPc : Word} {budget : Nat} {s : State} (h : budget = 0 ∨ reachesEnd endPc s = true) :
    clockToEnd endPc budget s = .next s := by
  cases budget with
  | zero => rfl
  | succ n => simp [clockToEnd, h.resolve_left (Nat.succ_ne_zero n)]

/-- Otherwise it goes on by one tick (R474). -/
theorem clockToEnd_ticks {endPc : Word} {budget : Nat} {s t : State} (h : reachesEnd endPc s = false)
    (ht : step s = .next t) : clockToEnd endPc (budget + 1) s = clockToEnd endPc budget t := by
  simp [clockToEnd, h, ht]

/-- A refused tick refuses the run. -/
theorem clockToEnd_refused {endPc : Word} {budget : Nat} {s : State} {e : Refusal} (h : reachesEnd endPc s = false)
    (ht : step s = .refused e) : clockToEnd endPc (budget + 1) s = .refused e := by
  simp [clockToEnd, h, ht]

end Sys2Proof.Machine
end

