-- ==== Sys2Proof/Tests/Slice0.lean ====
section
/-! SUPPORT. The package's own tests: ill-formed terms refused, decoding of words written out from the tables of
spec/30_encoding.md (R121, R122, R124), one-step vectors of spec/95_test_vectors.md, and a witness for the hypotheses of every statement. -/

namespace Sys2Proof.Tests

open Sys2Proof Sys2Proof.Machine Sys2Proof.Claim

/-! ### Well-formedness -/

/-- A branch offset above 127 is refused, one of 127 is not (R128). -/
theorem test_wf_offset_above : (Instr.bne 128).wf = false ∧ (Instr.bne 127).wf = true := by decide

/-- A branch offset below -128 is refused, one of -128 is not (R128). -/
theorem test_wf_offset_below : (Instr.bvs (-129)).wf = false ∧ (Instr.bvs (-128)).wf = true := by decide

/-- The same check on an operand alone. -/
theorem test_wf_operand : (Operand.rel 200).wf = false ∧ (Operand.rel (-1)).wf = true := by decide

/-! ### Decoding, the opcode byte bit by bit -/

/-- Every word of a list decodes to the instruction beside it, with no byte left. -/
def decodesTo (words : List (List Byte × Instr)) : Bool :=
  words.all (fun w => decide (decode w.1 = .ok (w.2, [])))

theorem test_decode_adc :
    decodesTo
      [([0b01100001#8, 0x42#8], .adcIzx 0x42#8), ([0b01100101#8, 0x53#8], .adcZp0 0x53#8),
        ([0b01101001#8, 0x64#8], .adcImm 0x64#8), ([0b01101101#8, 0xF3#8, 0x15#8], .adcAbs 0x15F3#16),
        ([0b01110001#8, 0x86#8], .adcIzy 0x86#8), ([0b01110101#8, 0x97#8], .adcZpx 0x97#8),
        ([0b01111001#8, 0xF6#8, 0x18#8], .adcAby 0x18F6#16), ([0b01111101#8, 0xF7#8, 0x19#8], .adcAbx 0x19F7#16)] = true := by
  decide

theorem test_decode_sbc :
    decodesTo
      [([0b11100001#8, 0x42#8], .sbcIzx 0x42#8), ([0b11100101#8, 0x53#8], .sbcZp0 0x53#8),
        ([0b11101001#8, 0x64#8], .sbcImm 0x64#8), ([0b11101101#8, 0xF3#8, 0x15#8], .sbcAbs 0x15F3#16),
        ([0b11110001#8, 0x86#8], .sbcIzy 0x86#8), ([0b11110101#8, 0x97#8], .sbcZpx 0x97#8),
        ([0b11111001#8, 0xF6#8, 0x18#8], .sbcAby 0x18F6#16), ([0b11111101#8, 0xF7#8, 0x19#8], .sbcAbx 0x19F7#16)] = true := by
  decide

theorem test_decode_and :
    decodesTo
      [([0b00100001#8, 0x42#8], .andIzx 0x42#8), ([0b00100101#8, 0x53#8], .andZp0 0x53#8),
        ([0b00101001#8, 0x64#8], .andImm 0x64#8), ([0b00101101#8, 0xF3#8, 0x15#8], .andAbs 0x15F3#16),
        ([0b00110001#8, 0x86#8], .andIzy 0x86#8), ([0b00110101#8, 0x97#8], .andZpx 0x97#8),
        ([0b00111001#8, 0xF6#8, 0x18#8], .andAby 0x18F6#16), ([0b00111101#8, 0xF7#8, 0x19#8], .andAbx 0x19F7#16)] = true := by
  decide

theorem test_decode_ora :
    decodesTo
      [([0b00000001#8, 0x42#8], .oraIzx 0x42#8), ([0b00000101#8, 0x53#8], .oraZp0 0x53#8),
        ([0b00001001#8, 0x64#8], .oraImm 0x64#8), ([0b00001101#8, 0xF3#8, 0x15#8], .oraAbs 0x15F3#16),
        ([0b00010001#8, 0x86#8], .oraIzy 0x86#8), ([0b00010101#8, 0x97#8], .oraZpx 0x97#8),
        ([0b00011001#8, 0xF6#8, 0x18#8], .oraAby 0x18F6#16), ([0b00011101#8, 0xF7#8, 0x19#8], .oraAbx 0x19F7#16)] = true := by
  decide

theorem test_decode_eor :
    decodesTo
      [([0b01000001#8, 0x42#8], .eorIzx 0x42#8), ([0b01000101#8, 0x53#8], .eorZp0 0x53#8),
        ([0b01001001#8, 0x64#8], .eorImm 0x64#8), ([0b01001101#8, 0xF3#8, 0x15#8], .eorAbs 0x15F3#16),
        ([0b01010001#8, 0x86#8], .eorIzy 0x86#8), ([0b01010101#8, 0x97#8], .eorZpx 0x97#8),
        ([0b01011001#8, 0xF6#8, 0x18#8], .eorAby 0x18F6#16), ([0b01011101#8, 0xF7#8, 0x19#8], .eorAbx 0x19F7#16)] = true := by
  decide

theorem test_decode_bit :
    decodesTo
      [([0b00100100#8, 0x42#8], .bitZp0 0x42#8), ([0b00101100#8, 0xF1#8, 0x13#8], .bitAbs 0x13F1#16)] = true := by
  decide

theorem test_decode_cmp :
    decodesTo
      [([0b11000001#8, 0x42#8], .cmpIzx 0x42#8), ([0b11000101#8, 0x53#8], .cmpZp0 0x53#8),
        ([0b11001001#8, 0x64#8], .cmpImm 0x64#8), ([0b11001101#8, 0xF3#8, 0x15#8], .cmpAbs 0x15F3#16),
        ([0b11010001#8, 0x86#8], .cmpIzy 0x86#8), ([0b11010101#8, 0x97#8], .cmpZpx 0x97#8),
        ([0b11011001#8, 0xF6#8, 0x18#8], .cmpAby 0x18F6#16), ([0b11011101#8, 0xF7#8, 0x19#8], .cmpAbx 0x19F7#16)] = true := by
  decide

theorem test_decode_cpx :
    decodesTo
      [([0b11100000#8, 0x42#8], .cpxImm 0x42#8), ([0b11100100#8, 0x53#8], .cpxZp0 0x53#8),
        ([0b11101100#8, 0xF2#8, 0x14#8], .cpxAbs 0x14F2#16)] = true := by
  decide

theorem test_decode_cpy :
    decodesTo
      [([0b11000000#8, 0x42#8], .cpyImm 0x42#8), ([0b11000100#8, 0x53#8], .cpyZp0 0x53#8),
        ([0b11001100#8, 0xF2#8, 0x14#8], .cpyAbs 0x14F2#16)] = true := by
  decide

theorem test_decode_inc :
    decodesTo
      [([0b11100110#8, 0x42#8], .incZp0 0x42#8), ([0b11101110#8, 0xF1#8, 0x13#8], .incAbs 0x13F1#16),
        ([0b11110110#8, 0x64#8], .incZpx 0x64#8), ([0b11111110#8, 0xF3#8, 0x15#8], .incAbx 0x15F3#16)] = true := by
  decide

theorem test_decode_dec :
    decodesTo
      [([0b11000110#8, 0x42#8], .decZp0 0x42#8), ([0b11001110#8, 0xF1#8, 0x13#8], .decAbs 0x13F1#16),
        ([0b11010110#8, 0x64#8], .decZpx 0x64#8), ([0b11011110#8, 0xF3#8, 0x15#8], .decAbx 0x15F3#16)] = true := by
  decide

theorem test_decode_inx :
    decodesTo
      [([0b11101000#8], .inx)] = true := by
  decide

theorem test_decode_iny :
    decodesTo
      [([0b11001000#8], .iny)] = true := by
  decide

theorem test_decode_dex :
    decodesTo
      [([0b11001010#8], .dex)] = true := by
  decide

theorem test_decode_dey :
    decodesTo
      [([0b10001000#8], .dey)] = true := by
  decide

theorem test_decode_asl :
    decodesTo
      [([0b00000110#8, 0x42#8], .aslZp0 0x42#8), ([0b00001010#8], .aslAcc),
        ([0b00001110#8, 0xF2#8, 0x14#8], .aslAbs 0x14F2#16), ([0b00010110#8, 0x75#8], .aslZpx 0x75#8),
        ([0b00011110#8, 0xF4#8, 0x16#8], .aslAbx 0x16F4#16)] = true := by
  decide

theorem test_decode_lsr :
    decodesTo
      [([0b01000110#8, 0x42#8], .lsrZp0 0x42#8), ([0b01001010#8], .lsrAcc),
        ([0b01001110#8, 0xF2#8, 0x14#8], .lsrAbs 0x14F2#16), ([0b01010110#8, 0x75#8], .lsrZpx 0x75#8),
        ([0b01011110#8, 0xF4#8, 0x16#8], .lsrAbx 0x16F4#16)] = true := by
  decide

theorem test_decode_rol :
    decodesTo
      [([0b00100110#8, 0x42#8], .rolZp0 0x42#8), ([0b00101010#8], .rolAcc),
        ([0b00101110#8, 0xF2#8, 0x14#8], .rolAbs 0x14F2#16), ([0b00110110#8, 0x75#8], .rolZpx 0x75#8),
        ([0b00111110#8, 0xF4#8, 0x16#8], .rolAbx 0x16F4#16)] = true := by
  decide

theorem test_decode_ror :
    decodesTo
      [([0b01100110#8, 0x42#8], .rorZp0 0x42#8), ([0b01101010#8], .rorAcc),
        ([0b01101110#8, 0xF2#8, 0x14#8], .rorAbs 0x14F2#16), ([0b01110110#8, 0x75#8], .rorZpx 0x75#8),
        ([0b01111110#8, 0xF4#8, 0x16#8], .rorAbx 0x16F4#16)] = true := by
  decide

theorem test_decode_bcc :
    decodesTo
      [([0b10010000#8, 0xFB#8], .bcc (-5))] = true := by
  decide

theorem test_decode_bcs :
    decodesTo
      [([0b10110000#8, 0xFB#8], .bcs (-5))] = true := by
  decide

theorem test_decode_beq :
    decodesTo
      [([0b11110000#8, 0xFB#8], .beq (-5))] = true := by
  decide

theorem test_decode_bmi :
    decodesTo
      [([0b00110000#8, 0xFB#8], .bmi (-5))] = true := by
  decide

theorem test_decode_bne :
    decodesTo
      [([0b11010000#8, 0xFB#8], .bne (-5))] = true := by
  decide

theorem test_decode_bpl :
    decodesTo
      [([0b00010000#8, 0xFB#8], .bpl (-5))] = true := by
  decide

theorem test_decode_bvc :
    decodesTo
      [([0b01010000#8, 0xFB#8], .bvc (-5))] = true := by
  decide

theorem test_decode_bvs :
    decodesTo
      [([0b01110000#8, 0xFB#8], .bvs (-5))] = true := by
  decide

theorem test_decode_jmp :
    decodesTo
      [([0b01001100#8, 0xF0#8, 0x12#8], .jmpAbs 0x12F0#16), ([0b01101100#8, 0xF1#8, 0x13#8], .jmpInd 0x13F1#16)] = true := by
  decide

theorem test_decode_jsr :
    decodesTo
      [([0b00100000#8, 0xF0#8, 0x12#8], .jsr 0x12F0#16)] = true := by
  decide

theorem test_decode_rts :
    decodesTo
      [([0b01100000#8], .rts)] = true := by
  decide

theorem test_decode_brk :
    decodesTo
      [([0b00000000#8], .brk)] = true := by
  decide

theorem test_decode_rti :
    decodesTo
      [([0b01000000#8], .rti)] = true := by
  decide

theorem test_decode_lda :
    decodesTo
      [([0b10100001#8, 0x42#8], .ldaIzx 0x42#8), ([0b10100101#8, 0x53#8], .ldaZp0 0x53#8),
        ([0b10101001#8, 0x64#8], .ldaImm 0x64#8), ([0b10101101#8, 0xF3#8, 0x15#8], .ldaAbs 0x15F3#16),
        ([0b10110001#8, 0x86#8], .ldaIzy 0x86#8), ([0b10110101#8, 0x97#8], .ldaZpx 0x97#8),
        ([0b10111001#8, 0xF6#8, 0x18#8], .ldaAby 0x18F6#16), ([0b10111101#8, 0xF7#8, 0x19#8], .ldaAbx 0x19F7#16)] = true := by
  decide

theorem test_decode_ldx :
    decodesTo
      [([0b10100010#8, 0x42#8], .ldxImm 0x42#8), ([0b10100110#8, 0x53#8], .ldxZp0 0x53#8),
        ([0b10101110#8, 0xF2#8, 0x14#8], .ldxAbs 0x14F2#16), ([0b10110110#8, 0x75#8], .ldxZpy 0x75#8),
        ([0b10111110#8, 0xF4#8, 0x16#8], .ldxAby 0x16F4#16)] = true := by
  decide

theorem test_decode_ldy :
    decodesTo
      [([0b10100000#8, 0x42#8], .ldyImm 0x42#8), ([0b10100100#8, 0x53#8], .ldyZp0 0x53#8),
        ([0b10101100#8, 0xF2#8, 0x14#8], .ldyAbs 0x14F2#16), ([0b10110100#8, 0x75#8], .ldyZpx 0x75#8),
        ([0b10111100#8, 0xF4#8, 0x16#8], .ldyAbx 0x16F4#16)] = true := by
  decide

theorem test_decode_sta :
    decodesTo
      [([0b10000001#8, 0x42#8], .staIzx 0x42#8), ([0b10000101#8, 0x53#8], .staZp0 0x53#8),
        ([0b10001101#8, 0xF2#8, 0x14#8], .staAbs 0x14F2#16), ([0b10010001#8, 0x75#8], .staIzy 0x75#8),
        ([0b10010101#8, 0x86#8], .staZpx 0x86#8), ([0b10011001#8, 0xF5#8, 0x17#8], .staAby 0x17F5#16),
        ([0b10011101#8, 0xF6#8, 0x18#8], .staAbx 0x18F6#16)] = true := by
  decide

theorem test_decode_stx :
    decodesTo
      [([0b10000110#8, 0x42#8], .stxZp0 0x42#8), ([0b10001110#8, 0xF1#8, 0x13#8], .stxAbs 0x13F1#16),
        ([0b10010110#8, 0x64#8], .stxZpy 0x64#8)] = true := by
  decide

theorem test_decode_sty :
    decodesTo
      [([0b10000100#8, 0x42#8], .styZp0 0x42#8), ([0b10001100#8, 0xF1#8, 0x13#8], .styAbs 0x13F1#16),
        ([0b10010100#8, 0x64#8], .styZpx 0x64#8)] = true := by
  decide

theorem test_decode_tax :
    decodesTo
      [([0b10101010#8], .tax)] = true := by
  decide

theorem test_decode_tay :
    decodesTo
      [([0b10101000#8], .tay)] = true := by
  decide

theorem test_decode_tsx :
    decodesTo
      [([0b10111010#8], .tsx)] = true := by
  decide

theorem test_decode_txa :
    decodesTo
      [([0b10001010#8], .txa)] = true := by
  decide

theorem test_decode_txs :
    decodesTo
      [([0b10011010#8], .txs)] = true := by
  decide

theorem test_decode_tya :
    decodesTo
      [([0b10011000#8], .tya)] = true := by
  decide

theorem test_decode_pha :
    decodesTo
      [([0b01001000#8], .pha)] = true := by
  decide

theorem test_decode_php :
    decodesTo
      [([0b00001000#8], .php)] = true := by
  decide

theorem test_decode_pla :
    decodesTo
      [([0b01101000#8], .pla)] = true := by
  decide

theorem test_decode_plp :
    decodesTo
      [([0b00101000#8], .plp)] = true := by
  decide

theorem test_decode_clc :
    decodesTo
      [([0b00011000#8], .clc)] = true := by
  decide

theorem test_decode_cld :
    decodesTo
      [([0b11011000#8], .cld)] = true := by
  decide

theorem test_decode_cli :
    decodesTo
      [([0b01011000#8], .cli)] = true := by
  decide

theorem test_decode_clv :
    decodesTo
      [([0b10111000#8], .clv)] = true := by
  decide

theorem test_decode_sec :
    decodesTo
      [([0b00111000#8], .sec)] = true := by
  decide

theorem test_decode_sed :
    decodesTo
      [([0b11111000#8], .sed)] = true := by
  decide

theorem test_decode_sei :
    decodesTo
      [([0b01111000#8], .sei)] = true := by
  decide

theorem test_decode_nop_1 :
    decodesTo
      [([0b00000100#8, 0x42#8], .nopZp004 0x42#8), ([0b00001100#8, 0xF1#8, 0x13#8], .nopAbs0C 0x13F1#16),
        ([0b00010100#8, 0x64#8], .nopZpx14 0x64#8), ([0b00011010#8], .nopImp1A),
        ([0b00011100#8, 0xF4#8, 0x16#8], .nopAbx1C 0x16F4#16), ([0b00110100#8, 0x97#8], .nopZpx34 0x97#8),
        ([0b00111010#8], .nopImp3A), ([0b00111100#8, 0xF7#8, 0x19#8], .nopAbx3C 0x19F7#16),
        ([0b01000100#8, 0xCA#8], .nopZp044 0xCA#8), ([0b01010100#8, 0xDB#8], .nopZpx54 0xDB#8),
        ([0b01011010#8], .nopImp5A), ([0b01011100#8, 0xFB#8, 0x1D#8], .nopAbx5C 0x1DFB#16),
        ([0b01100100#8, 0x0E#8], .nopZp064 0x0E#8), ([0b01110100#8, 0x1F#8], .nopZpx74 0x1F#8)] = true := by
  decide

theorem test_decode_nop_2 :
    decodesTo
      [([0b01111010#8], .nopImp7A), ([0b01111100#8, 0xF1#8, 0x13#8], .nopAbx7C 0x13F1#16),
        ([0b10000000#8, 0x64#8], .nopImm80 0x64#8), ([0b10000010#8, 0x75#8], .nopImm82 0x75#8),
        ([0b10001001#8, 0x86#8], .nopImm89 0x86#8), ([0b11000010#8, 0x97#8], .nopImmC2 0x97#8),
        ([0b11010100#8, 0xA8#8], .nopZpxD4 0xA8#8), ([0b11011010#8], .nopImpDA),
        ([0b11011100#8, 0xF8#8, 0x1A#8], .nopAbxDC 0x1AF8#16), ([0b11100010#8, 0xDB#8], .nopImmE2 0xDB#8),
        ([0b11101010#8], .nop), ([0b11110100#8, 0xFD#8], .nopZpxF4 0xFD#8), ([0b11111010#8], .nopImpFA),
        ([0b11111100#8, 0xFD#8, 0x1F#8], .nopAbxFC 0x1FFD#16)] = true := by
  decide

theorem test_decode_filler_1 :
    decodesTo
      [([0b00000010#8], .filler02), ([0b00000011#8], .filler03), ([0b00000111#8], .filler07),
        ([0b00001011#8], .filler0B), ([0b00001111#8], .filler0F), ([0b00010010#8], .filler12),
        ([0b00010011#8], .filler13), ([0b00010111#8], .filler17), ([0b00011011#8], .filler1B),
        ([0b00011111#8], .filler1F), ([0b00100010#8], .filler22), ([0b00100011#8], .filler23),
        ([0b00100111#8], .filler27), ([0b00101011#8], .filler2B)] = true := by
  decide

theorem test_decode_filler_2 :
    decodesTo
      [([0b00101111#8], .filler2F), ([0b00110010#8], .filler32), ([0b00110011#8], .filler33),
        ([0b00110111#8], .filler37), ([0b00111011#8], .filler3B), ([0b00111111#8], .filler3F),
        ([0b01000010#8], .filler42), ([0b01000011#8], .filler43), ([0b01000111#8], .filler47),
        ([0b01001011#8], .filler4B), ([0b01001111#8], .filler4F), ([0b01010010#8], .filler52),
        ([0b01010011#8], .filler53), ([0b01010111#8], .filler57)] = true := by
  decide

theorem test_decode_filler_3 :
    decodesTo
      [([0b01011011#8], .filler5B), ([0b01011111#8], .filler5F), ([0b01100010#8], .filler62),
        ([0b01100011#8], .filler63), ([0b01100111#8], .filler67), ([0b01101011#8], .filler6B),
        ([0b01101111#8], .filler6F), ([0b01110010#8], .filler72), ([0b01110011#8], .filler73),
        ([0b01110111#8], .filler77), ([0b01111011#8], .filler7B), ([0b01111111#8], .filler7F),
        ([0b10000011#8], .filler83), ([0b10000111#8], .filler87)] = true := by
  decide

theorem test_decode_filler_4 :
    decodesTo
      [([0b10001011#8], .filler8B), ([0b10001111#8], .filler8F), ([0b10010010#8], .filler92),
        ([0b10010011#8], .filler93), ([0b10010111#8], .filler97), ([0b10011011#8], .filler9B),
        ([0b10011100#8], .filler9C), ([0b10011110#8], .filler9E), ([0b10011111#8], .filler9F),
        ([0b10100011#8], .fillerA3), ([0b10100111#8], .fillerA7), ([0b10101011#8], .fillerAB),
        ([0b10101111#8], .fillerAF), ([0b10110010#8], .fillerB2)] = true := by
  decide

theorem test_decode_filler_5 :
    decodesTo
      [([0b10110011#8], .fillerB3), ([0b10110111#8], .fillerB7), ([0b10111011#8], .fillerBB),
        ([0b10111111#8], .fillerBF), ([0b11000011#8], .fillerC3), ([0b11000111#8], .fillerC7),
        ([0b11001011#8], .fillerCB), ([0b11001111#8], .fillerCF), ([0b11010010#8], .fillerD2),
        ([0b11010011#8], .fillerD3), ([0b11010111#8], .fillerD7), ([0b11011011#8], .fillerDB),
        ([0b11011111#8], .fillerDF), ([0b11100011#8], .fillerE3)] = true := by
  decide

theorem test_decode_filler_6 :
    decodesTo
      [([0b11100111#8], .fillerE7), ([0b11101011#8], .fillerEB), ([0b11101111#8], .fillerEF),
        ([0b11110010#8], .fillerF2), ([0b11110011#8], .fillerF3), ([0b11110111#8], .fillerF7),
        ([0b11111011#8], .fillerFB), ([0b11111111#8], .fillerFF)] = true := by
  decide

/-- Bytes that end inside an instruction are refused by name. -/
theorem test_decode_short :
    decode [] = .error .noOpcode ∧ decode [0xD0#8] = .error (.missingOperand 0xD0#8) ∧
      decode [0x20#8, 0x00#8] = .error (.missingOperand 0x20#8) := by
  decide

/-- The table's numbering: the opcode byte in bits 7 to 0, the low operand byte above it. -/
theorem test_decodeTableWord :
    decodeTableWord 24 0x1234AD = some (.ldaAbs 0x1234#16) ∧ decodeTableWord 8 0x12AD = some (.ldaAbs 0x0000#16) ∧
      decodeTableWord 16 0xFBD0 = some (.bne (-5)) := by
  decide

/-- The encoder lays the bytes out low byte first (R122). -/
theorem test_encode :
    encode (.ldaAbs 0x1234#16) = [0xAD#8, 0x34#8, 0x12#8] ∧ encode (.bne (-5)) = [0xD0#8, 0xFB#8] ∧
      encode .nop = [0xEA#8] := by
  decide

/-- A word placed in the reset state is what the next step fetches. -/
theorem test_withFetchWord :
    (fetchInstr (ppuClock (State.reset.withFetchWord 24 0x1234AD))).1 = .ldaAbs 0x1234#16 ∧
      (fetchInstr (ppuClock (State.reset.withFetchWord 8 0x60))).1 = .rts := by
  decide

/-! ### One-step vectors of spec/95_test_vectors.md -/

/-- The state of a vector: code at `pc` in PRG ROM, bytes of RAM, registers. -/
def vector (pc : Word) (code : List Byte) (ram : List (Nat × Byte)) (a x y s p : Byte) : State :=
  { State.reset with
    cpu := { State.reset.cpu with a := a, x := x, y := y, s := s, p := p, pc := pc, cycles := 0 }
    bus := { State.reset.bus with ram := ram.foldl (fun m c => Memory.write m c.1 c.2) [] }
    cart := some { blankCartridge with prg := bytesFrom (pc.toNat % 16384) code } }

/-- A, X, Y, S, P, PC and the cycles still to count after one step, then some bytes of memory. -/
def seen (r : Result) (bytes : List Word) : List Nat :=
  match r with
  | .next t =>
    [t.cpu.a.toNat, t.cpu.x.toNat, t.cpu.y.toNat, t.cpu.s.toNat, t.cpu.p.toNat, t.cpu.pc.toNat, t.cpu.cycles] ++
      bytes.map (fun w => (peek w t).toNat)
  | .fault _ | .refused _ => []

/-- V1 (R201): ADC: signed overflow positive. -/
theorem test_V1_adc :
    seen (step (vector 0x8000#16 [0x69#8, 0x50#8]
        [] 0x50#8 0x00#8 0x00#8 0xFD#8 0x20#8))
        [] =
      [0xA0, 0x00, 0x00, 0xFD, 0xE0, 0x8002, 1] := by
  decide

/-- V5 (R201): ADC: ABX page cross +1. -/
theorem test_V5_adc :
    seen (step (vector 0x8000#16 [0x7D#8, 0xF0#8, 0x12#8]
        [(0x310, 0x02#8)] 0x01#8 0x20#8 0x00#8 0xFD#8 0x20#8))
        [] =
      [0x03, 0x20, 0x00, 0xFD, 0x20, 0x8003, 4] := by
  decide

/-- V7 (R202): SBC: borrow out. -/
theorem test_V7_sbc :
    seen (step (vector 0x8000#16 [0xE9#8, 0x01#8]
        [] 0x00#8 0x00#8 0x00#8 0xFD#8 0x21#8))
        [] =
      [0xFF, 0x00, 0x00, 0xFD, 0xA0, 0x8002, 1] := by
  decide

/-- V10 (R202): SBC: IZY page cross +1, zero result. -/
theorem test_V10_sbc :
    seen (step (vector 0x8000#16 [0xF1#8, 0x10#8]
        [(0x010, 0xF0#8), (0x011, 0x01#8), (0x210, 0x10#8)] 0x10#8 0x00#8 0x20#8 0xFD#8 0x21#8))
        [] =
      [0x00, 0x00, 0x20, 0xFD, 0x23, 0x8002, 5] := by
  decide

/-- V12 (R204): ORA: negative. -/
theorem test_V12_ora :
    seen (step (vector 0x8000#16 [0x09#8, 0x80#8]
        [] 0x01#8 0x00#8 0x00#8 0xFD#8 0x20#8))
        [] =
      [0x81, 0x00, 0x00, 0xFD, 0xA0, 0x8002, 1] := by
  decide

/-- V13 (R205): EOR: zero. -/
theorem test_V13_eor :
    seen (step (vector 0x8000#16 [0x49#8, 0xFF#8]
        [] 0xFF#8 0x00#8 0x00#8 0xFD#8 0x20#8))
        [] =
      [0x00, 0x00, 0x00, 0xFD, 0x22, 0x8002, 1] := by
  decide

/-- V14 (R205): EOR: ZPX, negative. -/
theorem test_V14_eor :
    seen (step (vector 0x8000#16 [0x55#8, 0x10#8]
        [(0x011, 0xFF#8)] 0x0F#8 0x01#8 0x00#8 0xFD#8 0x20#8))
        [] =
      [0xF0, 0x01, 0x00, 0xFD, 0xA0, 0x8002, 3] := by
  decide

/-- V15 (R203): AND: ABS. -/
theorem test_V15_and :
    seen (step (vector 0x8000#16 [0x2D#8, 0x00#8, 0x02#8]
        [(0x200, 0x81#8)] 0xFF#8 0x00#8 0x00#8 0xFD#8 0x20#8))
        [] =
      [0x81, 0x00, 0x00, 0xFD, 0xA0, 0x8003, 3] := by
  decide

/-- V16 (R206): BIT: N V from memory, Z from A&M. -/
theorem test_V16_bit :
    seen (step (vector 0x8000#16 [0x24#8, 0x10#8]
        [(0x010, 0xC0#8)] 0x01#8 0x00#8 0x00#8 0xFD#8 0x20#8))
        [] =
      [0x01, 0x00, 0x00, 0xFD, 0xE2, 0x8002, 2] := by
  decide

/-- V17 (R207): CMP: less. -/
theorem test_V17_cmp :
    seen (step (vector 0x8000#16 [0xC9#8, 0x20#8]
        [] 0x10#8 0x00#8 0x00#8 0xFD#8 0x20#8))
        [] =
      [0x10, 0x00, 0x00, 0xFD, 0xA0, 0x8002, 1] := by
  decide

/-- V19 (R207): CMP: ABX page cross +1, equal. -/
theorem test_V19_cmp :
    seen (step (vector 0x8000#16 [0xDD#8, 0xF0#8, 0x12#8]
        [(0x310, 0x02#8)] 0x02#8 0x20#8 0x00#8 0xFD#8 0x20#8))
        [] =
      [0x02, 0x20, 0x00, 0xFD, 0x23, 0x8003, 4] := by
  decide

/-- V20 (R208): CPX: X > M: C=1. -/
theorem test_V20_cpx :
    seen (step (vector 0x8000#16 [0xE0#8, 0x03#8]
        [] 0x00#8 0x05#8 0x00#8 0xFD#8 0x20#8))
        [] =
      [0x00, 0x05, 0x00, 0xFD, 0x21, 0x8002, 1] := by
  decide

/-- V21 (R208): CPX: equal. -/
theorem test_V21_cpx :
    seen (step (vector 0x8000#16 [0xE4#8, 0x10#8]
        [(0x010, 0x10#8)] 0x00#8 0x10#8 0x00#8 0xFD#8 0x20#8))
        [] =
      [0x00, 0x10, 0x00, 0xFD, 0x23, 0x8002, 2] := by
  decide

/-- V22 (R209): CPY: Y < M: borrow, N from 0xFF. -/
theorem test_V22_cpy :
    seen (step (vector 0x8000#16 [0xC0#8, 0x01#8]
        [] 0x00#8 0x00#8 0x00#8 0xFD#8 0x20#8))
        [] =
      [0x00, 0x00, 0x00, 0xFD, 0xA0, 0x8002, 1] := by
  decide

/-- V23 (R209): CPY: unsigned greater, N from 0x80. -/
theorem test_V23_cpy :
    seen (step (vector 0x8000#16 [0xCC#8, 0x00#8, 0x02#8]
        [(0x200, 0x10#8)] 0x00#8 0x00#8 0x90#8 0xFD#8 0x20#8))
        [] =
      [0x00, 0x00, 0x90, 0xFD, 0xA1, 0x8003, 3] := by
  decide

/-- V24 (R210): INC: wrap. -/
theorem test_V24_inc :
    seen (step (vector 0x8000#16 [0xE6#8, 0x10#8]
        [(0x010, 0xFF#8)] 0x00#8 0x00#8 0x00#8 0xFD#8 0x20#8))
        [0x0010#16] =
      [0x00, 0x00, 0x00, 0xFD, 0x22, 0x8002, 4, 0x00] := by
  decide

/-- V25 (R210): INC: ABX cross, still 7. -/
theorem test_V25_inc :
    seen (step (vector 0x8000#16 [0xFE#8, 0xF0#8, 0x12#8]
        [(0x310, 0x7F#8)] 0x00#8 0x20#8 0x00#8 0xFD#8 0x20#8))
        [0x1310#16] =
      [0x00, 0x20, 0x00, 0xFD, 0xA0, 0x8003, 6, 0x80] := by
  decide

/-- V26 (R211): DEC: wrap. -/
theorem test_V26_dec :
    seen (step (vector 0x8000#16 [0xC6#8, 0x10#8]
        [(0x010, 0x00#8)] 0x00#8 0x00#8 0x00#8 0xFD#8 0x20#8))
        [0x0010#16] =
      [0x00, 0x00, 0x00, 0xFD, 0xA0, 0x8002, 4, 0xFF] := by
  decide

/-- V27 (R212): INX. -/
theorem test_V27_inx :
    seen (step (vector 0x8000#16 [0xE8#8]
        [] 0x00#8 0xFF#8 0x00#8 0xFD#8 0x20#8))
        [] =
      [0x00, 0x00, 0x00, 0xFD, 0x22, 0x8001, 1] := by
  decide

/-- V28 (R213): INY. -/
theorem test_V28_iny :
    seen (step (vector 0x8000#16 [0xC8#8]
        [] 0x00#8 0x00#8 0x7F#8 0xFD#8 0x20#8))
        [] =
      [0x00, 0x00, 0x80, 0xFD, 0xA0, 0x8001, 1] := by
  decide

/-- V29 (R214): DEX. -/
theorem test_V29_dex :
    seen (step (vector 0x8000#16 [0xCA#8]
        [] 0x00#8 0x00#8 0x00#8 0xFD#8 0x20#8))
        [] =
      [0x00, 0xFF, 0x00, 0xFD, 0xA0, 0x8001, 1] := by
  decide

/-- V30 (R215): DEY. -/
theorem test_V30_dey :
    seen (step (vector 0x8000#16 [0x88#8]
        [] 0x00#8 0x00#8 0x01#8 0xFD#8 0x20#8))
        [] =
      [0x00, 0x00, 0x00, 0xFD, 0x22, 0x8001, 1] := by
  decide

/-- V31 (R231): ASL: accumulator. -/
theorem test_V31_asl :
    seen (step (vector 0x8000#16 [0x0A#8]
        [] 0x80#8 0x00#8 0x00#8 0xFD#8 0x20#8))
        [] =
      [0x00, 0x00, 0x00, 0xFD, 0x23, 0x8001, 1] := by
  decide

/-- V32 (R231): ASL: memory. -/
theorem test_V32_asl :
    seen (step (vector 0x8000#16 [0x06#8, 0x10#8]
        [(0x010, 0x41#8)] 0x00#8 0x00#8 0x00#8 0xFD#8 0x20#8))
        [0x0010#16] =
      [0x00, 0x00, 0x00, 0xFD, 0xA0, 0x8002, 4, 0x82] := by
  decide

/-- V33 (R232): LSR: carry out, zero. -/
theorem test_V33_lsr :
    seen (step (vector 0x8000#16 [0x4A#8]
        [] 0x01#8 0x00#8 0x00#8 0xFD#8 0x20#8))
        [] =
      [0x00, 0x00, 0x00, 0xFD, 0x23, 0x8001, 1] := by
  decide

/-- V34 (R232): LSR: memory. -/
theorem test_V34_lsr :
    seen (step (vector 0x8000#16 [0x46#8, 0x10#8]
        [(0x010, 0x82#8)] 0x00#8 0x00#8 0x00#8 0xFD#8 0x20#8))
        [0x0010#16] =
      [0x00, 0x00, 0x00, 0xFD, 0x20, 0x8002, 4, 0x41] := by
  decide

/-- V35 (R233): ROL. -/
theorem test_V35_rol :
    seen (step (vector 0x8000#16 [0x2A#8]
        [] 0x80#8 0x00#8 0x00#8 0xFD#8 0x20#8))
        [] =
      [0x00, 0x00, 0x00, 0xFD, 0x23, 0x8001, 1] := by
  decide

/-- V36 (R233): ROL. -/
theorem test_V36_rol :
    seen (step (vector 0x8000#16 [0x26#8, 0x10#8]
        [(0x010, 0x40#8)] 0x00#8 0x00#8 0x00#8 0xFD#8 0x21#8))
        [0x0010#16] =
      [0x00, 0x00, 0x00, 0xFD, 0xA0, 0x8002, 4, 0x81] := by
  decide

/-- V37 (R234): ROR. -/
theorem test_V37_ror :
    seen (step (vector 0x8000#16 [0x6A#8]
        [] 0x02#8 0x00#8 0x00#8 0xFD#8 0x21#8))
        [] =
      [0x81, 0x00, 0x00, 0xFD, 0xA0, 0x8001, 1] := by
  decide

/-- V38 (R234): ROR: ABX cross, still 7. -/
theorem test_V38_ror :
    seen (step (vector 0x8000#16 [0x7E#8, 0xF0#8, 0x12#8]
        [(0x310, 0x01#8)] 0x00#8 0x20#8 0x00#8 0xFD#8 0x20#8))
        [0x1310#16] =
      [0x00, 0x20, 0x00, 0xFD, 0x23, 0x8003, 6, 0x00] := by
  decide

/-- V39 (R245): BNE: taken same page. -/
theorem test_V39_bne :
    seen (step (vector 0x8000#16 [0xD0#8, 0x02#8]
        [] 0x00#8 0x00#8 0x00#8 0xFD#8 0x20#8))
        [] =
      [0x00, 0x00, 0x00, 0xFD, 0x20, 0x8004, 2] := by
  decide

/-- V40 (R245): BNE: not taken. -/
theorem test_V40_bne :
    seen (step (vector 0x8000#16 [0xD0#8, 0x02#8]
        [] 0x00#8 0x00#8 0x00#8 0xFD#8 0x22#8))
        [] =
      [0x00, 0x00, 0x00, 0xFD, 0x22, 0x8002, 1] := by
  decide

/-- V41 (R243): BEQ: taken, page cross. -/
theorem test_V41_beq :
    seen (step (vector 0x80FD#16 [0xF0#8, 0x01#8]
        [] 0x00#8 0x00#8 0x00#8 0xFD#8 0x22#8))
        [] =
      [0x00, 0x00, 0x00, 0xFD, 0x22, 0x8100, 3] := by
  decide

/-- V42 (R246): BPL: branch to itself. -/
theorem test_V42_bpl :
    seen (step (vector 0x8000#16 [0x10#8, 0xFE#8]
        [] 0x00#8 0x00#8 0x00#8 0xFD#8 0x20#8))
        [] =
      [0x00, 0x00, 0x00, 0xFD, 0x20, 0x8000, 2] := by
  decide

/-- V43 (R242): BCS: backward -128, page cross. -/
theorem test_V43_bcs :
    seen (step (vector 0x8000#16 [0xB0#8, 0x80#8]
        [] 0x00#8 0x00#8 0x00#8 0xFD#8 0x21#8))
        [] =
      [0x00, 0x00, 0x00, 0xFD, 0x21, 0x7F82, 3] := by
  decide

/-- V44 (R241): BCC: not taken. -/
theorem test_V44_bcc :
    seen (step (vector 0x8000#16 [0x90#8, 0x10#8]
        [] 0x00#8 0x00#8 0x00#8 0xFD#8 0x21#8))
        [] =
      [0x00, 0x00, 0x00, 0xFD, 0x21, 0x8002, 1] := by
  decide

/-- V45 (R241): BCC: taken forward. -/
theorem test_V45_bcc :
    seen (step (vector 0x8000#16 [0x90#8, 0x10#8]
        [] 0x00#8 0x00#8 0x00#8 0xFD#8 0x20#8))
        [] =
      [0x00, 0x00, 0x00, 0xFD, 0x20, 0x8012, 2] := by
  decide

/-- V46 (R244): BMI: taken backward -16, page cross. -/
theorem test_V46_bmi :
    seen (step (vector 0x8000#16 [0x30#8, 0xF0#8]
        [] 0x00#8 0x00#8 0x00#8 0xFD#8 0xA0#8))
        [] =
      [0x00, 0x00, 0x00, 0xFD, 0xA0, 0x7FF2, 3] := by
  decide

/-- V47 (R247): BVC: taken +127. -/
theorem test_V47_bvc :
    seen (step (vector 0x8000#16 [0x50#8, 0x7F#8]
        [] 0x00#8 0x00#8 0x00#8 0xFD#8 0x20#8))
        [] =
      [0x00, 0x00, 0x00, 0xFD, 0x20, 0x8081, 2] := by
  decide

/-- V48 (R248): BVS: not taken. -/
theorem test_V48_bvs :
    seen (step (vector 0x8000#16 [0x70#8, 0x05#8]
        [] 0x00#8 0x00#8 0x00#8 0xFD#8 0x20#8))
        [] =
      [0x00, 0x00, 0x00, 0xFD, 0x20, 0x8002, 1] := by
  decide

/-- V49 (R248): BVS: taken. -/
theorem test_V49_bvs :
    seen (step (vector 0x8000#16 [0x70#8, 0x05#8]
        [] 0x00#8 0x00#8 0x00#8 0xFD#8 0x60#8))
        [] =
      [0x00, 0x00, 0x00, 0xFD, 0x60, 0x8007, 2] := by
  decide

/-- V51 (R250): JMP: IND page-wrap bug. -/
theorem test_V51_jmp :
    seen (step (vector 0x8000#16 [0x6C#8, 0xFF#8, 0x02#8]
        [(0x2FF, 0x80#8), (0x200, 0x00#8), (0x300, 0x12#8)] 0x00#8 0x00#8 0x00#8 0xFD#8 0x20#8))
        [] =
      [0x00, 0x00, 0x00, 0xFD, 0x20, 0x0080, 4] := by
  decide

/-- V52 (R250): JMP: IND normal. -/
theorem test_V52_jmp :
    seen (step (vector 0x8000#16 [0x6C#8, 0x00#8, 0x02#8]
        [(0x200, 0x34#8), (0x201, 0x12#8)] 0x00#8 0x00#8 0x00#8 0xFD#8 0x20#8))
        [] =
      [0x00, 0x00, 0x00, 0xFD, 0x20, 0x1234, 4] := by
  decide

/-- V53 (R252): JSR: stack wrap. -/
theorem test_V53_jsr :
    seen (step (vector 0x8000#16 [0x20#8, 0x00#8, 0x90#8]
        [] 0x00#8 0x00#8 0x00#8 0x00#8 0x20#8))
        [0x0100#16, 0x01FF#16] =
      [0x00, 0x00, 0x00, 0xFE, 0x20, 0x9000, 5, 0x80, 0x02] := by
  decide

/-- V54 (R254): RTS. -/
theorem test_V54_rts :
    seen (step (vector 0x8000#16 [0x60#8]
        [(0x1FC, 0x0E#8), (0x1FD, 0x80#8)] 0x00#8 0x00#8 0x00#8 0xFB#8 0x20#8))
        [] =
      [0x00, 0x00, 0x00, 0xFD, 0x20, 0x800F, 5] := by
  decide

/-- V55 (R256): BRK: I=1 does not block BRK; vector from [FFFE]=00 [FFFF]=00. -/
theorem test_V55_brk :
    seen (step (vector 0x8000#16 [0x00#8]
        [] 0x00#8 0x00#8 0x00#8 0xFD#8 0x24#8))
        [0x01FD#16, 0x01FC#16, 0x01FB#16] =
      [0x00, 0x00, 0x00, 0xFA, 0x24, 0x0000, 6, 0x80, 0x02, 0x34] := by
  decide

/-- V56 (R259): RTI: B,U forced clear then U set. -/
theorem test_V56_rti :
    seen (step (vector 0x8000#16 [0x40#8]
        [(0x1FB, 0xFF#8), (0x1FC, 0x34#8), (0x1FD, 0x12#8)] 0x00#8 0x00#8 0x00#8 0xFA#8 0x20#8))
        [] =
      [0x00, 0x00, 0x00, 0xFD, 0xEF, 0x1234, 5] := by
  decide

/-- V58 (R270): LDA: IZY page cross. -/
theorem test_V58_lda :
    seen (step (vector 0x8000#16 [0xB1#8, 0x10#8]
        [(0x010, 0xF0#8), (0x011, 0x01#8), (0x210, 0x99#8)] 0x00#8 0x00#8 0x20#8 0xFD#8 0x20#8))
        [] =
      [0x99, 0x00, 0x20, 0xFD, 0xA0, 0x8002, 5] := by
  decide

/-- V59 (R270): LDA: IZX pointer wraps in zero page. -/
theorem test_V59_lda :
    seen (step (vector 0x8000#16 [0xA1#8, 0xFE#8]
        [(0x0FF, 0x10#8), (0x000, 0x02#8), (0x210, 0x42#8)] 0x00#8 0x01#8 0x00#8 0xFD#8 0x20#8))
        [] =
      [0x42, 0x01, 0x00, 0xFD, 0x20, 0x8002, 5] := by
  decide

/-- V61 (R271): LDX: ZPY wraps. -/
theorem test_V61_ldx :
    seen (step (vector 0x8000#16 [0xB6#8, 0x80#8]
        [(0x010, 0x80#8)] 0x00#8 0x00#8 0x90#8 0xFD#8 0x20#8))
        [] =
      [0x00, 0x80, 0x90, 0xFD, 0xA0, 0x8002, 3] := by
  decide

/-- V62 (R272): LDY: ABX page cross. -/
theorem test_V62_ldy :
    seen (step (vector 0x8000#16 [0xBC#8, 0xFF#8, 0x00#8]
        [(0x100, 0x01#8)] 0x00#8 0x01#8 0x00#8 0xFD#8 0x20#8))
        [] =
      [0x00, 0x01, 0x01, 0xFD, 0x20, 0x8003, 4] := by
  decide

/-- V63 (R273): STA: ABY cross, still 5. -/
theorem test_V63_sta :
    seen (step (vector 0x8000#16 [0x99#8, 0xFF#8, 0x01#8]
        [] 0x55#8 0x00#8 0x01#8 0xFD#8 0x20#8))
        [0x0200#16] =
      [0x55, 0x00, 0x01, 0xFD, 0x20, 0x8003, 4, 0x55] := by
  decide

/-- V64 (R273): STA: ZPX wraps. -/
theorem test_V64_sta :
    seen (step (vector 0x8000#16 [0x95#8, 0xFF#8]
        [] 0x66#8 0x01#8 0x00#8 0xFD#8 0x20#8))
        [0x0000#16] =
      [0x66, 0x01, 0x00, 0xFD, 0x20, 0x8002, 3, 0x66] := by
  decide

/-- V65 (R274): STX. -/
theorem test_V65_stx :
    seen (step (vector 0x8000#16 [0x86#8, 0x10#8]
        [] 0x00#8 0xAB#8 0x00#8 0xFD#8 0x20#8))
        [0x0010#16] =
      [0x00, 0xAB, 0x00, 0xFD, 0x20, 0x8002, 2, 0xAB] := by
  decide

/-- V66 (R275): STY: RAM mirror. -/
theorem test_V66_sty :
    seen (step (vector 0x8000#16 [0x8C#8, 0x00#8, 0x08#8]
        [] 0x00#8 0x00#8 0xCD#8 0xFD#8 0x20#8))
        [0x0000#16] =
      [0x00, 0x00, 0xCD, 0xFD, 0x20, 0x8003, 3, 0xCD] := by
  decide

/-- V67 (R276): TAX. -/
theorem test_V67_tax :
    seen (step (vector 0x8000#16 [0xAA#8]
        [] 0x80#8 0x00#8 0x00#8 0xFD#8 0x20#8))
        [] =
      [0x80, 0x80, 0x00, 0xFD, 0xA0, 0x8001, 1] := by
  decide

/-- V68 (R277): TAY. -/
theorem test_V68_tay :
    seen (step (vector 0x8000#16 [0xA8#8]
        [] 0x00#8 0x00#8 0x00#8 0xFD#8 0x20#8))
        [] =
      [0x00, 0x00, 0x00, 0xFD, 0x22, 0x8001, 1] := by
  decide

/-- V69 (R278): TSX. -/
theorem test_V69_tsx :
    seen (step (vector 0x8000#16 [0xBA#8]
        [] 0x00#8 0x00#8 0x00#8 0xFD#8 0x20#8))
        [] =
      [0x00, 0xFD, 0x00, 0xFD, 0xA0, 0x8001, 1] := by
  decide

/-- V70 (R279): TXA. -/
theorem test_V70_txa :
    seen (step (vector 0x8000#16 [0x8A#8]
        [] 0x00#8 0x01#8 0x00#8 0xFD#8 0x20#8))
        [] =
      [0x01, 0x01, 0x00, 0xFD, 0x20, 0x8001, 1] := by
  decide

/-- V71 (R280): TXS: no flags. -/
theorem test_V71_txs :
    seen (step (vector 0x8000#16 [0x9A#8]
        [] 0x00#8 0x00#8 0x00#8 0xFD#8 0x20#8))
        [] =
      [0x00, 0x00, 0x00, 0x00, 0x20, 0x8001, 1] := by
  decide

/-- V72 (R281): TYA. -/
theorem test_V72_tya :
    seen (step (vector 0x8000#16 [0x98#8]
        [] 0x00#8 0x00#8 0xFF#8 0xFD#8 0x20#8))
        [] =
      [0xFF, 0x00, 0xFF, 0xFD, 0xA0, 0x8001, 1] := by
  decide

/-- V73 (R282): PHA. -/
theorem test_V73_pha :
    seen (step (vector 0x8000#16 [0x48#8]
        [] 0x42#8 0x00#8 0x00#8 0xFD#8 0x20#8))
        [0x01FD#16] =
      [0x42, 0x00, 0x00, 0xFC, 0x20, 0x8001, 2, 0x42] := by
  decide

/-- V74 (R283): PHP: pushed B,U set. -/
theorem test_V74_php :
    seen (step (vector 0x8000#16 [0x08#8]
        [] 0x00#8 0x00#8 0x00#8 0xFD#8 0x21#8))
        [0x01FD#16] =
      [0x00, 0x00, 0x00, 0xFC, 0x21, 0x8001, 2, 0x31] := by
  decide

/-- V75 (R284): PLA. -/
theorem test_V75_pla :
    seen (step (vector 0x8000#16 [0x68#8]
        [(0x1FF, 0x00#8)] 0x00#8 0x00#8 0x00#8 0xFE#8 0x20#8))
        [] =
      [0x00, 0x00, 0x00, 0xFF, 0x22, 0x8001, 3] := by
  decide

/-- V76 (R285): PLP: B taken from byte, U forced. -/
theorem test_V76_plp :
    seen (step (vector 0x8000#16 [0x28#8]
        [(0x1FD, 0xFF#8)] 0x00#8 0x00#8 0x00#8 0xFC#8 0x20#8))
        [] =
      [0x00, 0x00, 0x00, 0xFD, 0xFF, 0x8001, 3] := by
  decide

/-- V77 (R285): PLP: U forced. -/
theorem test_V77_plp :
    seen (step (vector 0x8000#16 [0x28#8]
        [(0x1FD, 0x00#8)] 0x00#8 0x00#8 0x00#8 0xFC#8 0x20#8))
        [] =
      [0x00, 0x00, 0x00, 0xFD, 0x20, 0x8001, 3] := by
  decide

/-- V78 (R300): CLC. -/
theorem test_V78_clc :
    seen (step (vector 0x8000#16 [0x18#8]
        [] 0x00#8 0x00#8 0x00#8 0xFD#8 0xFF#8))
        [] =
      [0x00, 0x00, 0x00, 0xFD, 0xFE, 0x8001, 1] := by
  decide

/-- V79 (R301): CLD. -/
theorem test_V79_cld :
    seen (step (vector 0x8000#16 [0xD8#8]
        [] 0x00#8 0x00#8 0x00#8 0xFD#8 0xFF#8))
        [] =
      [0x00, 0x00, 0x00, 0xFD, 0xF7, 0x8001, 1] := by
  decide

/-- V80 (R302): CLI. -/
theorem test_V80_cli :
    seen (step (vector 0x8000#16 [0x58#8]
        [] 0x00#8 0x00#8 0x00#8 0xFD#8 0xFF#8))
        [] =
      [0x00, 0x00, 0x00, 0xFD, 0xFB, 0x8001, 1] := by
  decide

/-- V81 (R303): CLV. -/
theorem test_V81_clv :
    seen (step (vector 0x8000#16 [0xB8#8]
        [] 0x00#8 0x00#8 0x00#8 0xFD#8 0xFF#8))
        [] =
      [0x00, 0x00, 0x00, 0xFD, 0xBF, 0x8001, 1] := by
  decide

/-- V82 (R304): SEC. -/
theorem test_V82_sec :
    seen (step (vector 0x8000#16 [0x38#8]
        [] 0x00#8 0x00#8 0x00#8 0xFD#8 0x20#8))
        [] =
      [0x00, 0x00, 0x00, 0xFD, 0x21, 0x8001, 1] := by
  decide

/-- V83 (R305): SED. -/
theorem test_V83_sed :
    seen (step (vector 0x8000#16 [0xF8#8]
        [] 0x00#8 0x00#8 0x00#8 0xFD#8 0x20#8))
        [] =
      [0x00, 0x00, 0x00, 0xFD, 0x28, 0x8001, 1] := by
  decide

/-- V84 (R306): SEI. -/
theorem test_V84_sei :
    seen (step (vector 0x8000#16 [0x78#8]
        [] 0x00#8 0x00#8 0x00#8 0xFD#8 0x20#8))
        [] =
      [0x00, 0x00, 0x00, 0xFD, 0x24, 0x8001, 1] := by
  decide

/-- V86 (R309): NOP*: unofficial ABX NOP page cross +1, no read side effect. -/
theorem test_V86_nop :
    seen (step (vector 0x8000#16 [0x1C#8, 0xF0#8, 0x12#8]
        [] 0x00#8 0x20#8 0x00#8 0xFD#8 0x20#8))
        [] =
      [0x00, 0x20, 0x00, 0xFD, 0x20, 0x8003, 4] := by
  decide

/-- V87 (R309): NOP*: unofficial IMM NOP, 2 bytes. -/
theorem test_V87_nop :
    seen (step (vector 0x8000#16 [0x80#8, 0xFF#8]
        [] 0x00#8 0x00#8 0x00#8 0xFD#8 0x20#8))
        [] =
      [0x00, 0x00, 0x00, 0xFD, 0x20, 0x8002, 1] := by
  decide

/-- V90 (R310): filler (NMOS name KIL): 1 byte, 2 cycles, no halt. -/
theorem test_V90_filler :
    seen (step (vector 0x8000#16 [0x02#8]
        [] 0x00#8 0x00#8 0x00#8 0xFD#8 0x20#8))
        [] =
      [0x00, 0x00, 0x00, 0xFD, 0x20, 0x8001, 1] := by
  decide

/-- V91 (R310): filler (NMOS SLO izx): 1 byte, 8 cycles; the byte 0x10 then executes as BPL. -/
theorem test_V91_filler :
    seen (step (vector 0x8000#16 [0x03#8, 0x10#8]
        [] 0x00#8 0x00#8 0x00#8 0xFD#8 0x20#8))
        [] =
      [0x00, 0x00, 0x00, 0xFD, 0x20, 0x8001, 7] := by
  decide

/-! ### The PPU and the bus, from the tables of spec/95_test_vectors.md and the rules -/

/-- A reset machine with vertical mirroring. -/
def verticalMachine : State := { State.reset with cart := some { blankCartridge with mirror := .vertical } }

/-- A reset machine with two PRG banks, one CHR bank and PRG writes ignored. -/
def twoBankMachine : State :=
  { State.reset with
    cart := some { blankCartridge with nPrg := 2, nChr := 1 }, config := { Params.default with prgWrite := .ignore } }

/-- The nametable bytes 0x2000 and 0x2800 are one under Vertical, two under Horizontal (R93). -/
theorem test_mirroring :
    ppuRead 0x2800#14 (ppuWrite 0x2000#14 0x5A#8 verticalMachine) = 0x5A#8 ∧
      ppuRead 0x2800#14 (ppuWrite 0x2000#14 0x5A#8 State.reset) = 0x00#8 ∧
      ppuRead 0x2400#14 (ppuWrite 0x2000#14 0x5A#8 State.reset) = 0x5A#8 := by
  decide

/-- Palette byte 0x3F10 is byte 0x3F00 and reads back six bits (R95). -/
theorem test_palette_fold : ppuRead 0x3F10#14 (ppuWrite 0x3F00#14 0xFF#8 State.reset) = 0x3F#8 := by decide

/-- Two writes to PPUADDR load `v`, and a PPUDATA read is one read late (R372, R373). -/
theorem test_ppudata_buffer :
    (memRead 0x2007#16 (memWrite 0x2006#16 0x08#8 (memWrite 0x2006#16 0x21#8 State.reset))).1 = 0x00#8 ∧
      (memWrite 0x2006#16 0x08#8 (memWrite 0x2006#16 0x21#8 State.reset)).ppu.v = 0x2108#15 := by
  decide

/-- A write through a RAM mirror is read at the byte's first address (R74). -/
theorem test_ram_mirror : peek 0x0001#16 (memWrite 0x1801#16 0x77#8 State.reset) = 0x77#8 := by decide

/-- Writing back what an unlisted byte reads as removes the entry. -/
theorem test_memory_canonical : (memWrite 0x0010#16 0x00#8 (memWrite 0x0010#16 0x07#8 State.reset)) = State.reset := by
  decide

/-! ### Witnesses: the hypotheses of each statement are met -/

/-- Offsets at both ends of their range, and an instruction without one. -/
theorem test_witness_DecodeOfEncode :
    (Instr.bne (-128)).wf = true ∧ (Instr.bcs 127).wf = true ∧ (Instr.adcAbx 0xFFFF#16).wf = true := by
  decide

theorem test_witness_EncodeOfDecode :
    decodesTo [([0x69#8, 0xFF#8], .adcImm 0xFF#8), ([0x10#8, 0x80#8], .bpl (-128)), ([0x02#8], .filler02)] = true := by
  decide

/-- A machine with index registers, a zero-page pointer to 0x02FF and the carry set. -/
def indexed : State := vector 0x8000#16 [] [(0x010, 0xFF#8), (0x011, 0x02#8)] 0x80#8 0x01#8 0x01#8 0xFD#8 0x21#8

/-- Operands that cross a page, and the last that do not, in the three modes that test it. -/
theorem test_witness_crossesPage :
    crossesPage (.abx 0x12FF#16) indexed = true ∧ crossesPage (.abx 0x12FE#16) indexed = false ∧
      crossesPage (.aby 0xFFFF#16) indexed = true ∧ crossesPage (.aby 0xFFFE#16) indexed = false ∧
      crossesPage (.izy 0x10#8) indexed = true ∧ crossesPage (.izy 0x20#8) indexed = false := by
  decide

/-- Every form of ADC and the base cycles it takes. -/
theorem test_witness_AddWithCarry :
    adcForm (.imm 0xFF#8) = some (.adcImm 0xFF#8, 0x69#8, 2) ∧
      adcForm (.zp0 0xFF#8) = some (.adcZp0 0xFF#8, 0x65#8, 3) ∧
      adcForm (.zpx 0xFF#8) = some (.adcZpx 0xFF#8, 0x75#8, 4) ∧
      adcForm (.abs 0x2007#16) = some (.adcAbs 0x2007#16, 0x6D#8, 4) ∧
      adcForm (.abx 0x12FF#16) = some (.adcAbx 0x12FF#16, 0x7D#8, 4) ∧
      adcForm (.aby 0xFFFF#16) = some (.adcAby 0xFFFF#16, 0x79#8, 4) ∧
      adcForm (.izx 0xFF#8) = some (.adcIzx 0xFF#8, 0x61#8, 6) ∧
      adcForm (.izy 0xFF#8) = some (.adcIzy 0xFF#8, 0x71#8, 5) :=
  ⟨rfl, rfl, rfl, rfl, rfl, rfl, rfl, rfl⟩

theorem test_witness_SubtractWithBorrow :
    sbcForm (.imm 0x00#8) = some (.sbcImm 0x00#8, 0xE9#8, 2) ∧
      sbcForm (.izy 0x10#8) = some (.sbcIzy 0x10#8, 0xF1#8, 5) := ⟨rfl, rfl⟩

theorem test_witness_LogicOnAccumulator :
    andForm (.imm 0xF0#8) = some (.andImm 0xF0#8, 0x29#8, 2) ∧
      oraForm (.abx 0x12FF#16) = some (.oraAbx 0x12FF#16, 0x1D#8, 4) ∧
      eorForm (.izx 0xFE#8) = some (.eorIzx 0xFE#8, 0x41#8, 6) :=
  ⟨rfl, rfl, rfl⟩

theorem test_witness_BitTest :
    bitForm (.zp0 0x10#8) = some (.bitZp0 0x10#8, 0x24#8, 3) ∧
      bitForm (.abs 0x2002#16) = some (.bitAbs 0x2002#16, 0x2C#8, 4) :=
  ⟨rfl, rfl⟩

theorem test_witness_CompareRegisters :
    cmpForm (.aby 0x12FF#16) = some (.cmpAby 0x12FF#16, 0xD9#8, 4) ∧
      cpxForm (.imm 0x03#8) = some (.cpxImm 0x03#8, 0xE0#8, 2) ∧
      cpyForm (.abs 0x0200#16) = some (.cpyAbs 0x0200#16, 0xCC#8, 4) :=
  ⟨rfl, rfl, rfl⟩

theorem test_witness_IncrementDecrementMemory :
    incForm (.abx 0x12F0#16) = some (.incAbx 0x12F0#16, 0xFE#8, 7) ∧
      decForm (.zp0 0x10#8) = some (.decZp0 0x10#8, 0xC6#8, 5) :=
  ⟨rfl, rfl⟩

/-- The accumulator form and a memory form of each shift. -/
theorem test_witness_ShiftAndRotate :
    aslForm .imp = some (.aslAcc, 0x0A#8, 2) ∧ aslForm (.abx 0x12F0#16) = some (.aslAbx 0x12F0#16, 0x1E#8, 7) ∧
      lsrForm .imp = some (.lsrAcc, 0x4A#8, 2) ∧ lsrForm (.zp0 0x10#8) = some (.lsrZp0 0x10#8, 0x46#8, 5) ∧
      rolForm .imp = some (.rolAcc, 0x2A#8, 2) ∧ rolForm (.zpx 0x10#8) = some (.rolZpx 0x10#8, 0x36#8, 6) ∧
      rorForm .imp = some (.rorAcc, 0x6A#8, 2) ∧ rorForm (.abs 0x0210#16) = some (.rorAbs 0x0210#16, 0x6E#8, 6) :=
  ⟨rfl, rfl, rfl, rfl, rfl, rfl, rfl, rfl⟩

/-- A branch taken (BCS with the carry set) and one not taken (BNE with Z clear is taken, BEQ is not). -/
theorem test_witness_BranchOnFlag :
    (Instr.bcs (-128), 0xB0#8, Flag.c, true) ∈ branches (-128) ∧ flag .c indexed = true ∧
      (Instr.beq 127, 0xF0#8, Flag.z, true) ∈ branches 127 ∧ flag .z indexed = false := by
  decide

theorem test_witness_LoadRegisters :
    ldaForm (.izy 0x10#8) = some (.ldaIzy 0x10#8, 0xB1#8, 5) ∧
      ldxForm (.aby 0x12FF#16) = some (.ldxAby 0x12FF#16, 0xBE#8, 4) ∧
      ldyForm (.abx 0x12FF#16) = some (.ldyAbx 0x12FF#16, 0xBC#8, 4) :=
  ⟨rfl, rfl, rfl⟩

theorem test_witness_StoreRegisters :
    staForm (.izy 0x10#8) = some (.staIzy 0x10#8, 0x91#8, 6) ∧
      stxForm (.zpy 0xFF#8) = some (.stxZpy 0xFF#8, 0x96#8, 4) ∧
      styForm (.abs 0x0800#16) = some (.styAbs 0x0800#16, 0x8C#8, 4) :=
  ⟨rfl, rfl, rfl⟩

/-- The clauses of `StoredByte`: RAM, PRG that can be written, PRG that cannot, a device register. -/
theorem test_witness_StoredByte :
    isMemory 0x1FFF#16 = true ∧ isMemory 0x2000#16 = false ∧ isMemory 0x7FFF#16 = false ∧ isMemory 0x8000#16 = true ∧
      prgSpan State.reset = 16384 ∧ prgSpan twoBankMachine = 32768 := by
  decide

theorem test_witness_prgWritable : prgWritable State.reset ∧ ¬ prgWritable twoBankMachine :=
  ⟨⟨blankCartridge, rfl, by decide, rfl⟩, fun ⟨_, _, _, h⟩ => PrgWrite.noConfusion h⟩

theorem test_witness_FlagSetAndClear :
    (Instr.clv, 0xB8#8, Flag.v, false) ∈ flagInstructions ∧ (Instr.sed, 0xF8#8, Flag.d, true) ∈ flagInstructions := by decide

/-- A NOP of every mode that has one. -/
theorem test_witness_NopsChangeNothing :
    (Instr.nop, 2) ∈ nops .imp ∧ (Instr.nopImm80 0xFF#8, 2) ∈ nops (.imm 0xFF#8) ∧
      (Instr.nopZp004 0x10#8, 3) ∈ nops (.zp0 0x10#8) ∧ (Instr.nopZpxF4 0x10#8, 4) ∈ nops (.zpx 0x10#8) ∧
      (Instr.nopAbs0C 0x2002#16, 4) ∈ nops (.abs 0x2002#16) ∧
      (Instr.nopAbx1C 0x12FF#16, 4) ∈ nops (.abx 0x12FF#16) := by
  decide

/-- The two treatments of a filler opcode. -/
theorem test_witness_FillerOpcodes :
    (Instr.filler02, 2) ∈ fillersLow ∧ (Instr.fillerFF, 7) ∈ fillersHigh ∧
      State.reset.config.illegalOpcode = .filler ∧
      ({ Params.default with illegalOpcode := .refuse } : Params).illegalOpcode = .refuse := by
  decide

theorem test_witness_InstructionCycles : State.reset.config.illegalOpcode = .filler := rfl

/-- An instruction that completes and whose mnemonic is in none of the lists. -/
theorem test_witness_OnlyNamedInstructionsWrite :
    (∃ t, exec .nop State.reset = .next t) ∧ mnemonic .nop ∉ writersOfA ∧ shiftsAccumulator .nop = false ∧
      mnemonic .nop ∉ writersOfX ∧ mnemonic .nop ∉ writersOfY ∧ mnemonic .nop ∉ writersOfS ∧
      mnemonic .nop ∉ writersOfPc ∧ mnemonic .nop ∉ writersOfFlag .b ∧ mnemonic .nop ∉ storers :=
  ⟨⟨_, rfl⟩, by decide, by decide, by decide, by decide, by decide, by decide, by decide, by decide⟩

/-- A shift of the accumulator stores nothing though its mnemonic is a storer's. -/
theorem test_witness_shiftsAccumulator :
    shiftsAccumulator .aslAcc = true ∧ mnemonic .aslAcc ∈ storers ∧ shiftsAccumulator (.aslZp0 0x10#8) = false := by
  decide

theorem test_witness_DecimalFlagIsReadByNothing :
    mnemonic (.adcImm 0x09#8) ∉ ["PHP", "BRK", "CLD", "SED", "PLP", "RTI"] := by decide

/-- A one-byte instruction in the last byte of RAM space: its operand bytes are not fetched. -/
def endOfRam : State := vector 0x1FFF#16 [] [(0x7FF, 0xEA#8)] 0x00#8 0x00#8 0x00#8 0xFD#8 0x20#8

theorem test_witness_cpuIsClocked : cpuIsClocked endOfRam ∧ endOfRam.cpu.cycles = 0 := ⟨⟨rfl, rfl, rfl⟩, rfl⟩

theorem test_witness_StepRunsDecodedInstruction :
    (∀ k, k < Instr.nop.length → isMemory (endOfRam.cpu.pc + BitVec.ofNat 16 k) = true) ∧
      decide (decode [peek endOfRam.cpu.pc endOfRam, peek (endOfRam.cpu.pc + 1#16) endOfRam,
        peek (endOfRam.cpu.pc + 2#16) endOfRam] = .ok (.nop, [0x00#8, 0x00#8])) = true := by
  decide

/-- A countdown in a CPU slot, and a tick between slots. -/
theorem test_witness_TicksBetweenInstructions :
    State.reset.cart.isSome = true ∧ State.reset.bus.dmaTransfer = false ∧ (ppuClock State.reset).ppu.nmi = false ∧
      State.reset.bus.tick % 3 = 0 ∧ State.reset.cpu.cycles ≠ 0 ∧
      ({ State.reset.bus with tick := 1 } : Bus).tick % 3 ≠ 0 := by
  decide

/-- No cartridge, a cartridge under FILLER, and an opcode that REFUSE refuses. -/
theorem test_witness_EveryTickIsDefined :
    ({ State.reset with cart := none } : State).cart = none ∧ State.reset.cart ≠ none ∧
      State.reset.config.illegalOpcode = .filler ∧
      step
          { vector 0x0200#16 [] [(0x200, 0x02#8)] 0x00#8 0x00#8 0x00#8 0xFD#8 0x20#8 with
            config := { Params.default with illegalOpcode := .refuse } } =
        .refused .illegalOpcode :=
  ⟨rfl, by decide, rfl, rfl⟩

theorem test_witness_StepKeepsInvariant : State.reset.inv = true ∧ ∃ t, step State.reset = .next t :=
  ⟨by decide, _, rfl⟩

/-- The header of an image with one PRG bank, CHR RAM and vertical mirroring. -/
def imageHeader : List Byte :=
  [0x4E#8, 0x45#8, 0x53#8, 0x1A#8, 0x01#8, 0x00#8, 0x01#8, 0x00#8, 0x00#8, 0x00#8, 0x00#8, 0x00#8, 0x00#8, 0x00#8,
    0x00#8, 0x00#8]

/-- The header with 16384 bytes after it loads. -/
theorem test_loadImage (bytes : List Byte) (h : bytes.length = 16384) :
    ∃ c, loadImage (imageHeader ++ bytes) = .ok c := by
  have hl : (imageHeader ++ bytes).length = 16400 := by rw [List.length_append, h]; rfl
  have h4 : (imageHeader ++ bytes).getD 4 0x00#8 = 0x01#8 := rfl
  have h5 : (imageHeader ++ bytes).getD 5 0x00#8 = 0x00#8 := rfl
  have h6 : (imageHeader ++ bytes).getD 6 0x00#8 = 0x01#8 := rfl
  have h7 : (imageHeader ++ bytes).getD 7 0x00#8 = 0x00#8 := rfl
  have hm : (imageHeader ++ bytes).take 4 = imageMagic := rfl
  unfold loadImage
  simp only [hl, h4, h5, h6, h7, hm]
  rw [if_neg (by decide), if_neg (by decide), if_neg (by decide), if_neg (by decide), if_neg (by decide)]
  exact ⟨_, rfl⟩

/-- An image that loads, and one refused with each load error, at both places where an image can end too early. -/
theorem test_witness_CartridgeFromImage :
    (∃ c, loadImage (imageHeader ++ List.replicate 16384 0x00#8) = .ok c) ∧
      refusedWith (List.replicate 16 0x00#8) .badMagic ∧ refusedWith (imageHeader.set 6 0x10#8) .unsupportedMapper ∧
      refusedWith (imageHeader.set 4 0x00#8) .noPrgBank ∧ refusedWith [] .truncated ∧
      refusedWith imageHeader .truncated := by
  refine ⟨test_loadImage _ List.length_replicate, ?_⟩
  unfold refusedWith hasMagic
  decide

/-- Wrong magic, too short, mapper 1: each refused by its name (R85). -/
theorem test_loadImage_errors :
    (match loadImage (List.replicate 16 0x00#8) with | .error .badMagic => true | _ => false) = true ∧
      (match loadImage imageHeader with | .error .truncated => true | _ => false) = true ∧
      (match loadImage (imageHeader.set 6 0x10#8) with | .error .unsupportedMapper => true | _ => false) = true ∧
      (match loadImage (imageHeader.set 4 0x00#8) with | .error .noPrgBank => true | _ => false) = true := by
  decide

/-- Every host operation has a next state from reset. -/
theorem test_witness_HostOperationsKeepMemories :
    State.reset.memoriesOk = true ∧ (∃ t, hostOp .systemClock State.reset = .next t) ∧
      (∃ t, hostOp .reset State.reset = .next t) ∧
      (∃ t, hostOp (.memRead 0x2007#16) State.reset = .next t) ∧
      (∃ t, hostOp (.memWrite 0x4014#16 0x02#8) State.reset = .next t) ∧ (∃ t, hostOp .irq State.reset = .next t) ∧
      (∃ t, hostOp .clearFrameComplete State.reset = .next t) ∧
      (∃ t, hostOp (.setController .second 0xFF#8) State.reset = .next t) ∧
      ∃ t, hostOp (.insertCartridge (imageHeader ++ List.replicate 16384 0x00#8)) State.reset = .next t :=
  ⟨by decide, ⟨_, rfl⟩, ⟨_, rfl⟩, ⟨_, rfl⟩, ⟨_, rfl⟩, ⟨_, rfl⟩, ⟨_, rfl⟩, ⟨_, rfl⟩, by
    obtain ⟨c, hc⟩ := test_witness_CartridgeFromImage.1
    exact ⟨{ State.reset with cart := some c }, by unfold hostOp insertCartridge; simp only [hc]⟩⟩

/-- A run ends at the first instruction start at `end_pc`, or when the budget is used up, and not while the
machine counts down, as after reset (R474). -/
theorem test_clockToEnd :
    (let s := readyToFetch State.reset
     clockToEnd 0x0000#16 5 s = .next s ∧ clockToEnd 0x8000#16 0 s = .next s ∧
       clockToEnd 0x8000#16 1 s = step s ∧ reachesEnd 0x0000#16 s = true) ∧
      reachesEnd 0x0000#16 State.reset = false := by
  refine ⟨⟨rfl, rfl, rfl, rfl⟩, rfl⟩

/-- A launch whose setup, the insertion of an image and a reset, leaves a state. -/
theorem test_witness_EveryTickIsDefined_launch :
    ∃ (l : Launch) (s : State), hostRun l.setup (powerOn l.params l.memories) = .next s := by
  obtain ⟨c, hc⟩ := test_witness_CartridgeFromImage.1
  refine ⟨⟨Params.default, ⟨[], [], [], [], [], [], []⟩,
    [.insertCartridge (imageHeader ++ List.replicate 16384 0x00#8), .reset], 0x8000#16, 1000⟩, ?_⟩
  exact ⟨_, by simp only [hostRun, hostOp, insertCartridge, hc, systemReset, powerOn]; rfl⟩

/-- A tick with a cartridge that has CHR ROM and ignores PRG writes. -/
theorem test_witness_CartridgeIsConstant :
    twoBankMachine.cart = some { blankCartridge with nPrg := 2, nChr := 1 } ∧ (∃ t, step twoBankMachine = .next t) ∧
      twoBankMachine.config.prgWrite = .ignore :=
  ⟨rfl, ⟨_, rfl⟩, rfl⟩

theorem test_witness_SystemResetValues :
    ({ State.reset with cart := none } : State).cart = none ∧ State.reset.cart ≠ none := by decide

/-- The first and the last address of RAM space, of one byte and of two. -/
theorem test_witness_RamAndItsMirrors :
    (0x0000#16).toNat ≤ 0x1FFF ∧ (0x1FFF#16).toNat ≤ 0x1FFF ∧ (0x1FFF#16).toNat % 2048 = (0x07FF#16).toNat % 2048 ∧
      (0x1FFF#16).toNat % 2048 ≠ (0x0000#16).toNat % 2048 := by
  decide

/-- The ends of the unmapped ranges and 0x4014, which is unmapped for reads only. -/
theorem test_witness_UnmappedAddresses :
    memRead 0x4000#16 State.reset = (0x00#8, State.reset) ∧ memRead 0x4014#16 State.reset = (0x00#8, State.reset) ∧
      memWrite 0x4015#16 0xFF#8 State.reset = State.reset ∧ memWrite 0x7FFF#16 0xFF#8 State.reset = State.reset ∧
      memWrite 0x4018#16 0xFF#8 State.reset = State.reset := by
  decide

/-- Addresses whose read changes nothing, at the ends of their ranges, and the value of a peek of a port that a read changes. -/
theorem test_witness_PeekAndReadAgree :
    (memRead 0x2001#16 State.reset).2 = State.reset ∧ (memRead 0x3FFE#16 State.reset).2 = State.reset ∧
      (memRead 0x4015#16 State.reset).2 = State.reset ∧ (memRead 0x4018#16 State.reset).2 = State.reset ∧
      peek 0x2007#16 State.reset = (memRead 0x2007#16 State.reset).1 := by
  decide

/-- PRG space at both ends with one bank and with two, in both write modes. -/
theorem test_witness_PrgSpace :
    State.reset.cart = some blankCartridge ∧ 1 ≤ blankCartridge.nPrg ∧ 0x8000 ≤ (0x8000#16).toNat ∧
      0x8000 ≤ (0xFFFF#16).toNat ∧ State.reset.config.prgWrite = .writeThrough ∧
      twoBankMachine.cart.map Cartridge.nPrg = some 2 ∧ twoBankMachine.config.prgWrite = .ignore := by
  decide

/-- A machine with I set and one with I clear. -/
theorem test_witness_InterruptEntry :
    flag .i State.reset = false ∧ flag .i (State.reset.setP 0x24#8) = true := by decide

/-- The machine at (241, 1) with the NMI enabled. -/
def vblankMachine : State :=
  { State.reset with ppu := { State.reset.ppu with ctrl := 0x80#8, scanline := 241, cycle := 1 } }

/-- The machine at (-1, 1) with the three status flags set and an NMI request pending. -/
def preRenderMachine : State :=
  { State.reset with ppu := { State.reset.ppu with status := 0xE0#8, nmi := true, scanline := -1, cycle := 1 } }

/-- R416 and R418 at their two steps: the vblank flag and the NMI request at (241, 1); at (-1, 1) the three flags are cleared and
the request stays. -/
theorem test_witness_VblankFlagByColumn :
    (ppuClock vblankMachine).ppu.status = 0x80#8 ∧ (ppuClock vblankMachine).ppu.nmi = true ∧
      (ppuClock preRenderMachine).ppu.status = 0x00#8 ∧ (ppuClock preRenderMachine).ppu.nmi = true := by
  decide

theorem test_witness_VblankNmiIsTakenAtOnce :
    vblankMachine.ppu.scanline = 241 ∧ vblankMachine.ppu.cycle = 1 ∧ vblankMachine.ppu.enableNmi = true ∧
      ∃ t, step vblankMachine = .next t :=
  ⟨rfl, rfl, by decide, _, rfl⟩

/-- The stack an NMI leaves, and the stack an IRQ leaves. -/
theorem test_witness_RtiUndoesInterruptEntry :
    (let h := nmi State.reset; h.cpu.s = h.cpu.s ∧ h.bus.ram = h.bus.ram) ∧ flag .i State.reset = false ∧
      (irq State.reset).cpu.s = 0xFA#8 := by
  decide

/-- Each PPU port at its first address and at its last mirror. -/
theorem test_witness_isPort :
    isPort 0x2000#16 0 ∧ isPort 0x3FF8#16 0 ∧ isPort 0x2001#16 1 ∧ isPort 0x2002#16 2 ∧ isPort 0x3FFA#16 2 ∧
      isPort 0x2003#16 3 ∧ isPort 0x2004#16 4 ∧ isPort 0x2005#16 5 ∧ isPort 0x3FFD#16 5 ∧ isPort 0x2006#16 6 ∧
      isPort 0x2007#16 7 ∧ isPort 0x3FFF#16 7 := by
  unfold isPort
  decide

/-- The latch `w` in both positions. -/
theorem test_witness_TwoWritePorts :
    State.reset.ppu.w = false ∧ (memWrite 0x2005#16 0xFF#8 State.reset).ppu.w = true := by decide

/-- Addresses that reach one PPU byte, region by region, and addresses that do not. -/
theorem test_witness_PpuBusReadAfterWrite :
    samePpuByte blankCartridge 0x1FFF#14 0x1FFF#14 ∧ blankCartridge.nChr = 0 ∧
      samePpuByte blankCartridge 0x2000#14 0x2400#14 ∧ samePpuByte blankCartridge 0x3EFF#14 0x2EFF#14 ∧
      samePpuByte blankCartridge 0x3F10#14 0x3FE0#14 ∧ ¬ samePpuByte blankCartridge 0x2000#14 0x2800#14 ∧
      ¬ samePpuByte blankCartridge 0x3F11#14 0x3F01#14 ∧ ({ blankCartridge with nChr := 1 } : Cartridge).nChr ≠ 0 := by
  unfold samePpuByte
  and_intros <;> decide

/-- The first frame after reset. -/
theorem test_witness_FrameIs89342Steps :
    State.reset.ppu.rasterOk = true ∧ State.reset.ppu.scanline = -1 ∧ State.reset.ppu.cycle = 0 ∧
      State.reset.ppu.frameComplete = false ∧ shortFrame State.reset = false := by
  decide

/-- The PPU of a reset machine at a raster position, with rendering enabled. -/
def ppuAt (line : Int) (col : Nat) : State :=
  { State.reset with ppu := { State.reset.ppu with mask := 0x08#8, scanline := line, cycle := col } }

/-- A machine at a raster position of an odd frame with rendering enabled, under the odd-frame skip. -/
def oddFrameAt (line : Int) (col : Nat) : State :=
  { ppuAt line col with
    config := { Params.default with oddFrameSkip := .oddFramesWhenRendering }
    ppu := { (ppuAt line col).ppu with oddFrame := true } }

/-- The skip is made at (0, 0) and nowhere else: the step at (0, 0) is that of (0, 1) and ends at (0, 2) (R402). -/
theorem test_oddFrameSkip :
    shortFrame (oddFrameAt 0 0) = true ∧ (afterSkip (oddFrameAt 0 0)).cycle = 1 ∧
      (ppuClock (oddFrameAt 0 0)).ppu.cycle = 2 ∧ (ppuClock (oddFrameAt 1 0)).ppu.cycle = 1 ∧
      (ppuClock (ppuAt 0 0)).ppu.cycle = 1 := by
  decide

/-- Every column clause at the ends of its range, on the first and the last line of the pipeline. -/
theorem test_witness_ScrollByColumn :
    rendering (ppuAt (-1) 256).ppu = true ∧ fetchLine (ppuAt (-1) 256).ppu = true ∧
      fetchLine (ppuAt 239 8).ppu = true ∧ fetchLine (ppuAt 240 8).ppu = false ∧ fetchWindow (ppuAt 0 8).ppu = true ∧
      fetchWindow (ppuAt 0 257).ppu = true ∧ fetchWindow (ppuAt (-1) 280).ppu = false ∧
      fetchWindow (ppuAt (-1) 304).ppu = false ∧ fetchWindow (ppuAt 0 328).ppu = true := by
  decide

/-- The ends of the two fetch windows, and a phase of each kind. -/
theorem test_witness_BackgroundPipelineByColumn :
    fetchLine (ppuAt 0 2).ppu = true ∧ fetchWindow (ppuAt 0 1).ppu = false ∧
      fetchWindow (ppuAt 0 2).ppu = true ∧ fetchWindow (ppuAt 0 258).ppu = false ∧
      fetchWindow (ppuAt 0 320).ppu = false ∧ fetchWindow (ppuAt 0 321).ppu = true ∧
      fetchWindow (ppuAt 0 337).ppu = true ∧ fetchWindow (ppuAt 0 338).ppu = false := by
  decide

/-- The first and the last cell of the picture, and the positions just outside it. -/
theorem test_witness_PixelOutput :
    inPicture (ppuAt 0 1).ppu ∧ inPicture (ppuAt 239 256).ppu ∧ ¬ inPicture (ppuAt 0 0).ppu ∧
      ¬ inPicture (ppuAt 0 257).ppu ∧ ¬ inPicture (ppuAt (-1) 1).ppu ∧ ¬ inPicture (ppuAt 240 1).ppu ∧
      inPicture (afterSkip (oddFrameAt 0 0)) := by
  unfold inPicture
  decide

/-- A PPU step at the picture's first cell writes the backdrop there, the step before it nothing (R422, R425). -/
theorem test_pixelOfStep :
    (let s := { ppuAt 0 1 with ppu := { (ppuAt 0 1).ppu with palette := [(0, 0x2C#8)] } }
     Picture.read (ppuClock s).ppu.frame 0 0 = 0x2C#6 ∧ (ppuClock s).ppu.frame.length = 1) ∧
      (ppuClock (ppuAt 0 0)).ppu.frame = [] := by
  decide

/-- A machine in a DMA transfer from a page, at a tick, in a tick mode. -/
def transferring (page : Byte) (tick : Nat) (dummy : Bool) (mode : DmaTickMode) : State :=
  { State.reset with
    config := { Params.default with dmaTickMode := mode }
    bus := { State.reset.bus with dmaPage := page, dmaTransfer := true, dmaDummy := dummy, tick := tick } }

/-- Waiting, reading, writing. -/
theorem test_witness_DmaStepByStep :
    (transferring 0x02#8 0 true .cpuSlot).bus.dmaDummy = true ∧
      (transferring 0x02#8 4 false .everyTick).bus.dmaDummy = false ∧
      (transferring 0x02#8 4 false .everyTick).bus.tick % 2 = 0 ∧
      (transferring 0x02#8 3 false .cpuSlot).bus.tick % 2 = 1 := by
  decide

/-- Both tick modes, both parities, the first and the last page of each kind of memory. -/
theorem test_witness_DmaCopiesPageToOam :
    (transferring 0x1F#8 3 true .cpuSlot).cart.isSome = true ∧
      (transferring 0x1F#8 3 true .cpuSlot).ppu.enableNmi = false ∧
      (transferring 0x1F#8 3 true .cpuSlot).ppu.nmi = false ∧
      (transferring 0x1F#8 3 true .cpuSlot).bus.dmaTransfer = true ∧
      (transferring 0x1F#8 3 true .cpuSlot).bus.dmaDummy = true ∧
      (transferring 0x1F#8 3 true .cpuSlot).bus.dmaAddr = 0x00#8 ∧
      (transferring 0x1F#8 3 true .cpuSlot).bus.tick % 3 = 0 ∧ isMemory (0x00#8 ++ 0x00#8) = true ∧
      isMemory (0x1F#8 ++ 0x00#8) = true ∧ isMemory (0x80#8 ++ 0x00#8) = true ∧ isMemory (0xFF#8 ++ 0x00#8) = true ∧
      (transferring 0x80#8 4 true .everyTick).config.dmaTickMode ≠ .cpuSlot := by
  decide


end Sys2Proof.Tests
end

section
/-! O33: when a tick has a next state, and where a launch's run ends. The only refusal of a tick with a cartridge is that of a filler
opcode, which passes through the tick's parts unchanged; the end of a run is an induction over the tick budget. -/

namespace Sys2Proof.Machine

open Sys2Proof.Claim

/-! ### The outcomes of a tick (R321, R451) -/

/-- An answer that is a next state, or under REFUSE perhaps the refusal of a filler opcode. -/
def DefinedUnder (mode : IllegalOpcode) (r : Result) : Prop :=
  (∃ t, r = .next t) ∨ mode = .refuse ∧ r = .refused .illegalOpcode

theorem definedUnder_next (mode : IllegalOpcode) (t : State) : DefinedUnder mode (.next t) := .inl ⟨t, rfl⟩

/-- Going on from an answer leaves its kind. -/
theorem DefinedUnder.andThen {mode : IllegalOpcode} {r : Result} (h : DefinedUnder mode r) (f : State → State) :
    DefinedUnder mode (r.andThen f) := by
  obtain ⟨t, rfl⟩ | ⟨hm, rfl⟩ := h
  · exact definedUnder_next mode (f t)
  · exact .inr ⟨hm, rfl⟩

theorem exec_defined (i : Instr) (s : State) : DefinedUnder s.config.illegalOpcode (exec i s) := by
  rw [exec_routine]
  split
  · next h => exact .inr ⟨h.2, rfl⟩
  · exact definedUnder_next _ _

theorem startInstr_defined (s : State) : DefinedUnder s.config.illegalOpcode (startInstr s) := by
  obtain ⟨-, -, hconfig, -⟩ := fetchInstr_sameMemories s
  rw [← hconfig]
  exact (exec_defined _ _).andThen countDown

theorem cpuClock_defined (s : State) : DefinedUnder s.config.illegalOpcode (cpuClock s) := by
  unfold cpuClock
  split
  · exact startInstr_defined s
  · exact definedUnder_next _ _

theorem clockCpuOrDma_defined (s : State) : DefinedUnder s.config.illegalOpcode (clockCpuOrDma s) := by
  unfold clockCpuOrDma
  split
  · exact definedUnder_next _ _
  · split
    · split
      · exact definedUnder_next _ _
      · exact cpuClock_defined s
    · exact definedUnder_next _ _

/-- A tick with a cartridge inserted has a next state, but for a filler opcode under REFUSE. -/
theorem step_defined {s : State} (h : s.cart ≠ none) : DefinedUnder s.config.illegalOpcode (step s) := by
  rw [step_eq h, ← ppuClock_config s]
  exact (clockCpuOrDma_defined _).andThen endTick

/-- The refusal `noCartridge` means what it says (R321, D30). -/
theorem step_noCartridge_iff (s : State) : s.cart = none ↔ step s = .refused .noCartridge := by
  constructor
  · intro h
    unfold step systemClock
    rw [h]
  · intro h
    by_contra hc
    have hd := step_defined hc
    rw [h] at hd
    simp [DefinedUnder] at hd

/-! ### The end of a launch's run (R474, D53) -/

/-- A run of a positive number of steps is one step, then the rest. -/
theorem run_succ_eq_next (M : Host.Core) (n : Nat) (s t : M.State) :
    M.run (n + 1) s = .next t ↔ ∃ u, M.step s = .next u ∧ M.run n u = .next t := by
  simp only [Host.Core.run]
  cases M.step s <;> simp

/-- After a tick to `u` a run goes on from `u`. -/
theorem run_succ_iff {s u : State} (h : step s = .next u) (n : Nat) (t : State) :
    Host.Core.run Sys2Proof.core (n + 1) s = .next t ↔ Host.Core.run Sys2Proof.core n u = .next t := by
  rw [run_succ_eq_next Sys2Proof.core n s t]
  constructor
  · rintro ⟨v, hv, hrun⟩
    rwa [Host.Outcome.next.inj (h.symm.trans hv)]
  · exact fun hrun => ⟨u, h, hrun⟩

/-- The two readings of an instruction start at `end_pc` agree. -/
theorem reachesEnd_iff (endPc : Word) (s : State) : reachesEnd endPc s = true ↔ startsAt endPc s := by
  simp [reachesEnd, startsInstruction, isCpuSlot, startsAt, cpuIsClocked, and_assoc]

/-- The run from `s` ends in `t` after `n` ticks (R474): the budget is used up or `t` starts the instruction at `end_pc`, and no
state before `t` does. -/
def EndsAfter (endPc : Word) (budget n : Nat) (s t : State) : Prop :=
  n ≤ budget ∧ Host.Core.run Sys2Proof.core n s = .next t ∧ (n = budget ∨ startsAt endPc t) ∧
    ∀ k u, k < n → Host.Core.run Sys2Proof.core k s = .next u → ¬ startsAt endPc u

/-- A run that is at its end ends where it is, after no tick. -/
theorem endsAfter_of_stops {endPc : Word} {budget : Nat} {s : State} (h : budget = 0 ∨ startsAt endPc s) (t : State) :
    (∃ n, EndsAfter endPc budget n s t) ↔ s = t := by
  constructor
  · rintro ⟨n, hle, hrun, -, hfirst⟩
    have hn : n = 0 := by
      rcases h with rfl | h
      · exact Nat.le_zero.mp hle
      · by_contra hn
        exact hfirst 0 s (Nat.pos_of_ne_zero hn) rfl h
    subst hn
    exact Host.Outcome.next.inj hrun
  · rintro rfl
    exact ⟨0, Nat.zero_le _, rfl, h.imp_left Eq.symm, fun k _ hk => absurd hk (Nat.not_lt_zero k)⟩

/-- A run that is not at its end takes at least one tick, and that tick has a next state. -/
theorem EndsAfter.first_tick {endPc : Word} {budget n : Nat} {s t : State} (hs : ¬ startsAt endPc s)
    (h : EndsAfter endPc (budget + 1) n s t) : ∃ m u, n = m + 1 ∧ step s = .next u := by
  obtain ⟨-, hrun, hend, -⟩ := h
  cases n with
  | zero =>
    obtain rfl : s = t := Host.Outcome.next.inj hrun
    exact absurd hend (not_or.mpr ⟨(Nat.succ_ne_zero budget).symm, hs⟩)
  | succ m =>
    obtain ⟨u, hu, -⟩ := (run_succ_eq_next Sys2Proof.core m s t).mp hrun
    exact ⟨m, u, rfl, hu⟩

/-- The first tick of a run that is not at its end takes one tick off the budget. -/
theorem endsAfter_succ {endPc : Word} {budget n : Nat} {s u t : State} (hs : ¬ startsAt endPc s) (hu : step s = .next u) :
    EndsAfter endPc (budget + 1) (n + 1) s t ↔ EndsAfter endPc budget n u t := by
  have hfirst : (∀ k w, k < n + 1 → Host.Core.run Sys2Proof.core k s = .next w → ¬ startsAt endPc w) ↔
      ∀ k w, k < n → Host.Core.run Sys2Proof.core k u = .next w → ¬ startsAt endPc w := by
    constructor
    · intro h k w hk hw
      exact h (k + 1) w (Nat.succ_lt_succ hk) ((run_succ_iff hu k w).mpr hw)
    · intro h k w hk hw
      cases k with
      | zero => rwa [← Host.Outcome.next.inj hw]
      | succ k => exact h k w (Nat.lt_of_succ_lt_succ hk) ((run_succ_iff hu k w).mp hw)
  unfold EndsAfter
  rw [run_succ_iff hu, hfirst, Nat.succ_le_succ_iff, Nat.succ_inj]

/-- Clocking up to the end of the run answers the state in which the run ends. -/
theorem clockToEnd_eq_next (endPc : Word) (budget : Nat) (s t : State) :
    clockToEnd endPc budget s = .next t ↔ ∃ n, EndsAfter endPc budget n s t := by
  induction budget generalizing s with
  | zero =>
    rw [clockToEnd_stops (.inl rfl), endsAfter_of_stops (.inl rfl),
      Host.Outcome.next.injEq]
  | succ budget ih =>
    by_cases hs : startsAt endPc s
    · rw [clockToEnd_stops (.inr ((reachesEnd_iff endPc s).mpr hs)), endsAfter_of_stops (.inr hs),
        Host.Outcome.next.injEq]
    · have hr : reachesEnd endPc s = false := Bool.eq_false_iff.mpr (mt (reachesEnd_iff endPc s).mp hs)
      cases hstep : step s with
      | next u =>
        rw [clockToEnd_ticks hr hstep, ih]
        constructor
        · rintro ⟨n, hn⟩
          exact ⟨n + 1, (endsAfter_succ hs hstep).mpr hn⟩
        · rintro ⟨n, hn⟩
          obtain ⟨m, -, rfl, -⟩ := hn.first_tick hs
          exact ⟨m, (endsAfter_succ hs hstep).mp hn⟩
      | fault e => cases e
      | refused e =>
        rw [clockToEnd_refused hr hstep]
        refine iff_of_false (fun h => nomatch h) ?_
        rintro ⟨n, hn⟩
        obtain ⟨-, u, -, hu⟩ := hn.first_tick hs
        cases hstep.symm.trans hu

/-- A launch whose setup leaves `s` runs on from `s`. -/
theorem launchRun_of_setup {l : Launch} {s : State} (h : hostRun l.setup (powerOn l.params l.memories) = .next s) :
    launchRun l = clockToEnd l.endPc l.tickBudget s := by
  unfold launchRun
  rw [h]

/-- Settles O33, from the outcomes of a tick and an induction over the tick budget. -/
theorem everyTickIsDefined : Obligations.EveryTickIsDefined := by
  intro s
  refine ⟨step_noCartridge_iff s, fun hc hf => ?_, fun hc => ?_, fun l t hl => ?_⟩
  · exact (step_defined hc).resolve_right (fun h => absurd (hf.symm.trans h.1) (by decide))
  · exact (step_defined hc).imp_right And.right
  · rw [launchRun_of_setup hl]
    exact clockToEnd_eq_next l.endPc l.tickBudget s t

end Sys2Proof.Machine
end

section
/-! O28: what an instruction may write. `WritesOnly` says it of one mnemonic and any two states; it composes, and it
holds of each register write, bus access, mode routine and stack operation. Every operation routine is a composition of
these. -/

namespace Sys2Proof.Machine

open Sys2Proof.Claim

/-! ### The flags a computation writes -/

/-- `q` has the flags of `p`, but for U and those that mnemonic `m` writes. -/
def StatusOnly (m : String) (q p : Byte) : Prop := ∀ f, f ≠ .u → m ∉ writersOfFlag f → getFlag f q = getFlag f p

theorem StatusOnly.refl (m : String) (p : Byte) : StatusOnly m p p := fun _ _ _ => rfl

theorem StatusOnly.trans {m : String} {a b c : Byte} (h : StatusOnly m a b) (h' : StatusOnly m b c) : StatusOnly m a c :=
  fun f hu hm => (h f hu hm).trans (h' f hu hm)

theorem statusOnly_setFlag {m : String} (f : Flag) (on : Bool) (p : Byte) (hf : f = .u ∨ m ∈ writersOfFlag f) :
    StatusOnly m (setFlag f on p) p := by
  intro g hu hm
  rw [getFlag_setFlag, if_neg]
  rintro rfl
  exact hf.elim hu hm

/-- PLP and RTI write every flag (R259, R285). -/
theorem statusOnly_restored {m : String} (h : m = "PLP" ∨ m = "RTI") (q p : Byte) : StatusOnly m q p := by
  intro f hu hm
  refine absurd ?_ hm
  rcases h with rfl | rfl <;>
    cases f with
    | u => exact absurd rfl hu
    | c | z | i | d | b | v | n => decide

section

variable {m : String}

theorem statusOnly_setZN (v p : Byte) (hz : m ∈ writersOfFlag .z) : StatusOnly m (setZN v p) p :=
  (statusOnly_setFlag .n _ _ (.inr hz)).trans (statusOnly_setFlag .z _ _ (.inr hz))

theorem statusOnly_shiftFlags (out : Bool) (r p : Byte) (hc : m ∈ writersOfFlag .c) (hz : m ∈ writersOfFlag .z) :
    StatusOnly m (shiftFlags out r p) p :=
  (statusOnly_setZN _ _ hz).trans (statusOnly_setFlag .c _ _ (.inr hc))

theorem statusOnly_compareFlags (r v p : Byte) (hc : m ∈ writersOfFlag .c) (hz : m ∈ writersOfFlag .z) :
    StatusOnly m (compareFlags r v p) p :=
  (statusOnly_setFlag .n _ _ (.inr hz)).trans
    ((statusOnly_setFlag .z _ _ (.inr hz)).trans (statusOnly_setFlag .c _ _ (.inr hc)))

theorem statusOnly_bitFlags (a v p : Byte) (hz : m ∈ writersOfFlag .z) (hv : m ∈ writersOfFlag .v) :
    StatusOnly m (bitFlags a v p) p :=
  (statusOnly_setFlag .v _ _ (.inr hv)).trans
    ((statusOnly_setFlag .n _ _ (.inr hz)).trans (statusOnly_setFlag .z _ _ (.inr hz)))

theorem statusOnly_addFlags (a v p : Byte) (hc : m ∈ writersOfFlag .c) (hz : m ∈ writersOfFlag .z)
    (hv : m ∈ writersOfFlag .v) : StatusOnly m (addFlags a v p) p :=
  (statusOnly_setFlag .n _ _ (.inr hz)).trans ((statusOnly_setFlag .v _ _ (.inr hv)).trans
    ((statusOnly_setFlag .z _ _ (.inr hz)).trans (statusOnly_setFlag .c _ _ (.inr hc))))

theorem statusOnly_subFlags (a v p : Byte) (hc : m ∈ writersOfFlag .c) (hz : m ∈ writersOfFlag .z)
    (hv : m ∈ writersOfFlag .v) : StatusOnly m (subFlags a v p) p :=
  (statusOnly_setFlag .n _ _ (.inr hz)).trans ((statusOnly_setFlag .v _ _ (.inr hv)).trans
    ((statusOnly_setFlag .z _ _ (.inr hz)).trans (statusOnly_setFlag .c _ _ (.inr hc))))

end

/-! ### The steps of an instruction -/

/-- `t` differs from `s` only in what mnemonic `m` writes, and in the countdown and the address and operand latches;
`acc` says that the instruction shifts the accumulator. -/
structure WritesOnly (m : String) (acc : Bool) (t s : State) : Prop where
  regA : m ∉ writersOfA → acc = false → t.cpu.a = s.cpu.a
  regX : m ∉ writersOfX → t.cpu.x = s.cpu.x
  regY : m ∉ writersOfY → t.cpu.y = s.cpu.y
  regS : m ∉ writersOfS → t.cpu.s = s.cpu.s
  regPc : m ∉ writersOfPc → t.cpu.pc = s.cpu.pc
  status : StatusOnly m t.cpu.p s.cpu.p
  memories : m ∉ storers ∨ acc = true → SameMemories t s
  opcode : t.cpu.opcode = s.cpu.opcode
  config : t.config = s.config

/-- The instruction shifts the accumulator (`shiftsAccumulator`), by its routine and operand. -/
def shiftsA (r : Routine) (o : Operand) : Bool :=
  decide (r.mnemonic ∈ ["ASL", "LSR", "ROL", "ROR"]) && decide (o = .imp)

theorem shiftsA_of_mem {r : Routine} (h : r.mnemonic ∈ ["ASL", "LSR", "ROL", "ROR"]) (o : Operand) :
    shiftsA r o = decide (o = .imp) := by
  rw [shiftsA, decide_eq_true h, Bool.true_and]

theorem shiftsA_of_not_mem {r : Routine} (h : r.mnemonic ∉ ["ASL", "LSR", "ROL", "ROR"]) (o : Operand) :
    shiftsA r o = false := by
  rw [shiftsA, decide_eq_false h, Bool.false_and]

namespace WritesOnly

variable {m : String} {acc : Bool}

theorem trans {a b c : State} (h : WritesOnly m acc a b) (h' : WritesOnly m acc b c) : WritesOnly m acc a c where
  regA := fun hm ha => (h.regA hm ha).trans (h'.regA hm ha)
  regX := fun hm => (h.regX hm).trans (h'.regX hm)
  regY := fun hm => (h.regY hm).trans (h'.regY hm)
  regS := fun hm => (h.regS hm).trans (h'.regS hm)
  regPc := fun hm => (h.regPc hm).trans (h'.regPc hm)
  status := h.status.trans h'.status
  memories := fun hm => (h.memories hm).trans (h'.memories hm)
  opcode := h.opcode.trans h'.opcode
  config := h.config.trans h'.config

/-- A change of the CPU alone. -/
theorem of_cpu {c : Cpu} {s : State} (ha : m ∉ writersOfA → acc = false → c.a = s.cpu.a)
    (hx : m ∉ writersOfX → c.x = s.cpu.x) (hy : m ∉ writersOfY → c.y = s.cpu.y) (hs : m ∉ writersOfS → c.s = s.cpu.s)
    (hpc : m ∉ writersOfPc → c.pc = s.cpu.pc) (hp : StatusOnly m c.p s.cpu.p) (ho : c.opcode = s.cpu.opcode) :
    WritesOnly m acc { s with cpu := c } s :=
  ⟨ha, hx, hy, hs, hpc, hp, fun _ => .refl s, ho, rfl⟩

theorem refl (m : String) (acc : Bool) (s : State) : WritesOnly m acc s s :=
  of_cpu (fun _ _ => rfl) (fun _ => rfl) (fun _ => rfl) (fun _ => rfl) (fun _ => rfl) (.refl m _) rfl

/-- The countdown and the latches of the mode routines and of `fetch()` are no registers. -/
theorem latches (n : Nat) (absLatch relLatch : Word) (v : Byte) (s : State) :
    WritesOnly m acc
      { s with cpu := { s.cpu with cycles := n, addrAbs := absLatch, addrRel := relLatch, fetched := v } } s :=
  of_cpu (fun _ _ => rfl) (fun _ => rfl) (fun _ => rfl) (fun _ => rfl) (fun _ => rfl) (.refl m _) rfl

theorem setA (v : Byte) (s : State) (h : m ∈ writersOfA ∨ acc = true) : WritesOnly m acc (s.setA v) s :=
  of_cpu (fun hm ha => h.elim (absurd · hm) (fun e => by cases ha.symm.trans e)) (fun _ => rfl) (fun _ => rfl)
    (fun _ => rfl) (fun _ => rfl) (.refl m _) rfl

theorem setX (v : Byte) (s : State) (h : m ∈ writersOfX) : WritesOnly m acc (s.setX v) s :=
  of_cpu (fun _ _ => rfl) (absurd h) (fun _ => rfl) (fun _ => rfl) (fun _ => rfl) (.refl m _) rfl

theorem setY (v : Byte) (s : State) (h : m ∈ writersOfY) : WritesOnly m acc (s.setY v) s :=
  of_cpu (fun _ _ => rfl) (fun _ => rfl) (absurd h) (fun _ => rfl) (fun _ => rfl) (.refl m _) rfl

theorem setS (v : Byte) (s : State) (h : m ∈ writersOfS) : WritesOnly m acc (s.setS v) s :=
  of_cpu (fun _ _ => rfl) (fun _ => rfl) (fun _ => rfl) (absurd h) (fun _ => rfl) (.refl m _) rfl

theorem setPc (v : Word) (s : State) (h : m ∈ writersOfPc) : WritesOnly m acc (s.setPc v) s :=
  of_cpu (fun _ _ => rfl) (fun _ => rfl) (fun _ => rfl) (fun _ => rfl) (absurd h) (.refl m _) rfl

theorem setP {p : Byte} {s : State} (h : StatusOnly m p s.cpu.p) : WritesOnly m acc (s.setP p) s :=
  of_cpu (fun _ _ => rfl) (fun _ => rfl) (fun _ => rfl) (fun _ => rfl) (fun _ => rfl) h rfl

/-- A bus access: the CPU stays, and the memories unless the mnemonic stores. -/
theorem of_access {t s : State} (hc : t.cpu = s.cpu) (hg : t.config = s.config)
    (hm : m ∉ storers ∨ acc = true → SameMemories t s) : WritesOnly m acc t s where
  regA := fun _ _ => by rw [hc]
  regX := fun _ => by rw [hc]
  regY := fun _ => by rw [hc]
  regS := fun _ => by rw [hc]
  regPc := fun _ => by rw [hc]
  status := by rw [hc]; exact .refl m _
  memories := hm
  opcode := by rw [hc]
  config := hg

theorem memRead (a : Word) (s : State) : WritesOnly m acc (memRead a s).2 s :=
  of_access (memRead_cpu a s) (memRead_config a s) (fun _ => memRead_sameMemories a s)

theorem memWrite (a : Word) (v : Byte) (s : State) (hm : m ∈ storers) (ha : acc = false) :
    WritesOnly m acc (memWrite a v s) s :=
  of_access (memWrite_cpu a v s) (memWrite_config a v s)
    (fun h => h.elim (absurd hm) (fun e => by cases ha.symm.trans e))

theorem memReadWord (a b : Word) (s : State) : WritesOnly m acc (memReadWord a b s).2 s :=
  (memRead b _).trans (memRead a s)

theorem push (v : Byte) (s : State) (hs : m ∈ writersOfS) (hm : m ∈ storers) (ha : acc = false) :
    WritesOnly m acc (push v s) s :=
  (setS _ _ hs).trans (memWrite _ v s hm ha)

theorem pushWord (w : Word) (s : State) (hs : m ∈ writersOfS) (hm : m ∈ storers) (ha : acc = false) :
    WritesOnly m acc (pushWord w s) s :=
  (push _ _ hs hm ha).trans (push _ _ hs hm ha)

theorem pull (s : State) (hs : m ∈ writersOfS) : WritesOnly m acc (pull s).2 s := (memRead _ _).trans (setS _ s hs)

theorem pullWord (s : State) (hs : m ∈ writersOfS) : WritesOnly m acc (pullWord s).2 s := (pull _ hs).trans (pull s hs)

theorem addressing (o : Operand) (s : State) : WritesOnly m acc (addressing o s).2 s := by
  cases o with
  | imp | imm | zp0 | zpx | zpy | rel | abs | abx | aby => exact latches _ _ _ _ s
  | ind | izx | izy => exact (latches _ _ _ _ _).trans (memReadWord _ _ s)

theorem fetchOperand (o : Operand) (s : State) : WritesOnly m acc (fetchOperand o s).2 s := by
  cases o with
  | imp => exact refl m acc s
  | imm => exact latches _ _ _ _ s
  | zp0 | zpx | zpy | rel | abs | abx | aby | ind | izx | izy => exact (latches _ _ _ _ _).trans (memRead _ s)

/-! ### The operation routines by family -/

theorem loadA (v : Byte) (s : State) (ha : m ∈ writersOfA) (hz : m ∈ writersOfFlag .z) :
    WritesOnly m acc (loadA v s) s :=
  (setP (statusOnly_setZN _ _ hz)).trans (setA v s (.inl ha))

theorem loadX (v : Byte) (s : State) (hx : m ∈ writersOfX) (hz : m ∈ writersOfFlag .z) :
    WritesOnly m acc (loadX v s) s :=
  (setP (statusOnly_setZN _ _ hz)).trans (setX v s hx)

theorem loadY (v : Byte) (s : State) (hy : m ∈ writersOfY) (hz : m ∈ writersOfFlag .z) :
    WritesOnly m acc (loadY v s) s :=
  (setP (statusOnly_setZN _ _ hz)).trans (setY v s hy)

theorem logicOnA (g : Byte → Byte → Byte) (o : Operand) (s : State) (ha : m ∈ writersOfA)
    (hz : m ∈ writersOfFlag .z) : WritesOnly m acc (logicOnA g o s).2 s :=
  (setP (statusOnly_setZN _ _ hz)).trans ((setA _ _ (.inl ha)).trans (fetchOperand o s))

theorem compareWith (reg : Cpu → Byte) (extra : Bool) (o : Operand) (s : State) (hc : m ∈ writersOfFlag .c)
    (hz : m ∈ writersOfFlag .z) : WritesOnly m acc (compareWith reg extra o s).2 s :=
  (setP (statusOnly_compareFlags _ _ _ hc hz)).trans (fetchOperand o s)

theorem modifyMemory (g : Byte → Byte) (o : Operand) (s : State) (hm : m ∈ storers) (ha : acc = false)
    (hz : m ∈ writersOfFlag .z) : WritesOnly m acc (modifyMemory g o s).2 s :=
  (setP (statusOnly_setZN _ _ hz)).trans ((memWrite _ _ _ hm ha).trans (fetchOperand o s))

/-- A shift stores to A in mode IMP and to memory in the other modes. -/
theorem storeResult (o : Operand) (v : Byte) (s : State) (hm : m ∈ storers) (ha : acc = decide (o = .imp)) :
    WritesOnly m acc (storeResult o v s) s := by
  by_cases ho : o = .imp
  · subst ho
    exact setA v s (.inr ha)
  · rw [storeResult_memory ho]
    exact memWrite _ v s hm (ha.trans (decide_eq_false ho))

theorem shiftWith (result : Byte → Byte → Byte) (out : Byte → Bool) (o : Operand) (s : State) (hm : m ∈ storers)
    (ha : acc = decide (o = .imp)) (hc : m ∈ writersOfFlag .c) (hz : m ∈ writersOfFlag .z) :
    WritesOnly m acc (shiftWith result out o s).2 s :=
  (storeResult o _ _ hm ha).trans ((setP (statusOnly_shiftFlags _ _ _ hc hz)).trans (fetchOperand o s))

theorem branchOn (f : Flag) (value : Bool) (o : Operand) (s : State) (hpc : m ∈ writersOfPc) :
    WritesOnly m acc (branchOn f value o s).2 s := by
  unfold Machine.branchOn
  simp only
  split
  · exact (setPc _ _ hpc).trans (latches _ _ _ _ s)
  · exact refl m acc s

theorem writeFlag (f : Flag) (on : Bool) (o : Operand) (s : State) (hf : m ∈ writersOfFlag f) :
    WritesOnly m acc (writeFlag f on o s).2 s :=
  setP (statusOnly_setFlag f _ _ (.inr hf))

theorem softwareInterrupt (s : State) (ha : acc = false) : WritesOnly "BRK" acc (softwareInterrupt s) s := by
  have hs : "BRK" ∈ writersOfS := by decide
  have hm : "BRK" ∈ storers := by decide
  have hpc : "BRK" ∈ writersOfPc := by decide
  have hi : "BRK" ∈ writersOfFlag .i := by decide
  exact (setPc _ _ hpc).trans ((memReadWord _ _ _).trans ((setP (statusOnly_setFlag .i _ _ (.inr hi))).trans
    ((push _ _ hs hm ha).trans ((pushWord _ _ hs hm ha).trans (setPc _ s hpc)))))

theorem returnFromInterrupt (s : State) : WritesOnly "RTI" acc (returnFromInterrupt s) s := by
  have hs : "RTI" ∈ writersOfS := by decide
  have hpc : "RTI" ∈ writersOfPc := by decide
  exact (setPc _ _ hpc).trans ((pullWord _ hs).trans
    ((setP (statusOnly_restored (.inr rfl) _ _)).trans (pull s hs)))

/-- Every operation routine. -/
theorem operation (r : Routine) (o : Operand) (s : State) :
    WritesOnly r.mnemonic (shiftsA r o) (r.operation o s).2 s := by
  cases r with
  | adc =>
    exact (setP (statusOnly_addFlags _ _ _ (by decide) (by decide) (by decide))).trans
      ((setA _ _ (.inl (by decide))).trans (fetchOperand o s))
  | sbc =>
    exact (setP (statusOnly_subFlags _ _ _ (by decide) (by decide) (by decide))).trans
      ((setA _ _ (.inl (by decide))).trans (fetchOperand o s))
  | and | ora | eor => exact logicOnA _ o s (by decide) (by decide)
  | bit => exact (setP (statusOnly_bitFlags _ _ _ (by decide) (by decide))).trans (fetchOperand o s)
  | cmp | cpx | cpy => exact compareWith _ _ o s (by decide) (by decide)
  | inc | dec =>
    dsimp only [Routine.operation]
    exact modifyMemory _ o s (by decide) (shiftsA_of_not_mem (by decide) o) (by decide)
  | inx | dex | tax | tsx => exact loadX _ s (by decide) (by decide)
  | iny | dey | tay => exact loadY _ s (by decide) (by decide)
  | txa | tya => exact loadA _ s (by decide) (by decide)
  | txs => exact setS _ s (by decide)
  | lda => exact (loadA _ _ (by decide) (by decide)).trans (fetchOperand o s)
  | ldx => exact (loadX _ _ (by decide) (by decide)).trans (fetchOperand o s)
  | ldy => exact (loadY _ _ (by decide) (by decide)).trans (fetchOperand o s)
  | asl | lsr | rol | ror =>
    dsimp only [Routine.operation]
    exact shiftWith _ _ o s (by decide) (shiftsA_of_mem (by decide) o) (by decide) (by decide)
  | bcc | bcs | beq | bmi | bne | bpl | bvc | bvs => exact branchOn _ _ o s (by decide)
  | jmp => exact setPc _ s (by decide)
  | jsr => exact (setPc _ _ (by decide)).trans (pushWord _ s (by decide) (by decide) (shiftsA_of_not_mem (by decide) o))
  | rts => exact (setPc _ _ (by decide)).trans (pullWord s (by decide))
  | brk => exact softwareInterrupt s (shiftsA_of_not_mem (by decide) o)
  | rti => exact returnFromInterrupt s
  | sta | stx | sty => exact memWrite _ _ s (by decide) (shiftsA_of_not_mem (by decide) o)
  | pha | php => exact push _ s (by decide) (by decide) (shiftsA_of_not_mem (by decide) o)
  | pla => exact (loadA _ _ (by decide) (by decide)).trans (pull s (by decide))
  | plp => exact (setP (statusOnly_restored (.inl rfl) _ _)).trans (pull s (by decide))
  | clc | cld | cli | clv | sec | sed | sei => exact writeFlag _ _ o s (by decide)
  | nop | filler => exact refl _ _ s

/-- A whole instruction: the mode routine, the operation routine, the countdown and U. -/
theorem runInstr (base : Nat) (r : Routine) (o : Operand) (s : State) :
    WritesOnly r.mnemonic (shiftsA r o) (Machine.runInstr base o r.operation s) s :=
  (setP (statusOnly_setFlag .u _ _ (.inl rfl))).trans ((latches _ _ _ _ _).trans
    ((operation r o _).trans ((addressing o _).trans (latches _ _ _ _ s))))

end WritesOnly

/-- What `exec` may write (R20, R23 to R26, R151). -/
theorem exec_writesOnly {i : Instr} {s t : State} (h : exec i s = .next t) :
    WritesOnly (mnemonic i) (shiftsAccumulator i) t s := by
  rw [exec_next h, shiftsAccumulator, mnemonic, mnemonic_routine]
  exact .runInstr _ i.routine i.operand s

/-- Every instruction leaves U = 1 (R23, R150). -/
theorem exec_unused {i : Instr} {s t : State} (h : exec i s = .next t) : flag .u t = true := by
  rw [exec_next h]
  exact (getFlag_setFlag .u .u true _).trans (if_pos rfl)

theorem SameMemories.memoryKept {t s : State} (h : SameMemories t s) : MemoryKept t s := by
  obtain ⟨hram, hcart, -, hppu⟩ := h
  exact memoryKept_of hram hcart hppu

/-- Settles O28, by composing over the steps of every operation routine what each may write. -/
theorem onlyNamedInstructionsWrite : Obligations.OnlyNamedInstructionsWrite := by
  intro i s t h
  have hw := exec_writesOnly h
  exact ⟨hw.regA, hw.regX, hw.regY, hw.regS, hw.regPc, hw.status, exec_unused h,
    fun hm => (hw.memories hm).memoryKept, hw.opcode, hw.config⟩

end Sys2Proof.Machine
end

section
/-! O37: what a tick keeps of the cartridge and the parameters. The bus writes the cartridge in two places only, PRG from
the CPU's side and CHR RAM from the PPU's; the rest of a tick leaves it alone. -/

namespace Sys2Proof.Machine

open Sys2Proof.Claim

/-- `d` is the cartridge `c` but for CHR RAM and, unless writes to PRG are ignored, PRG (R32, R83, R88). -/
def BuffersOnly (mode : PrgWrite) (d c : Cartridge) : Prop :=
  header d = header c ∧ (c.nChr ≠ 0 → d.chr = c.chr) ∧ (mode = .ignore → d.prg = c.prg)

theorem BuffersOnly.refl (mode : PrgWrite) (c : Cartridge) : BuffersOnly mode c c := ⟨rfl, fun _ => rfl, fun _ => rfl⟩

theorem BuffersOnly.trans {mode : PrgWrite} {a b c : Cartridge} (h : BuffersOnly mode a b) (h' : BuffersOnly mode b c) :
    BuffersOnly mode a c := by
  obtain ⟨hheader, hchr, hprg⟩ := h
  obtain ⟨hheader', hchr', hprg'⟩ := h'
  have hn : (header b).nChr = (header c).nChr := by rw [hheader']
  exact ⟨hheader.trans hheader', fun h => (hchr (hn.trans_ne h)).trans (hchr' h),
    fun h => (hprg h).trans (hprg' h)⟩

/-- A CPU write that hits the cartridge (R83). -/
theorem cartCpuWrite_buffersOnly {mode : PrgWrite} {c d : Cartridge} {a : Word} {v : Byte}
    (h : cartCpuWrite mode (some c) a v = some d) : BuffersOnly mode d c := by
  unfold cartCpuWrite at h
  simp only at h
  split at h
  · cases h
  · split at h <;> cases h
    · exact ⟨rfl, fun _ => rfl, nofun⟩
    · exact .refl _ c

/-- A PPU write that hits the cartridge: CHR is RAM (R88). -/
theorem cartPpuWrite_buffersOnly (mode : PrgWrite) {c d : Cartridge} {a : PpuAddr} {v : Byte}
    (h : cartPpuWrite (some c) a v = some d) : BuffersOnly mode d c := by
  obtain ⟨o, ho, rfl⟩ := Option.map_eq_some_iff.mp h
  unfold ppuMapWrite at ho
  split at ho
  · next hram => exact ⟨rfl, absurd hram.2, fun _ => rfl⟩
  · cases ho

/-! ### Along a tick -/

/-- The parameters are `g`, and the cartridge is `c` but for what can be written of it. -/
def HoldsCartridge (g : Params) (c : Cartridge) (s : State) : Prop :=
  s.config = g ∧ ∃ d, s.cart = some d ∧ BuffersOnly g.prgWrite d c

section

variable {g : Params} {c : Cartridge} {s : State}

theorem HoldsCartridge.of_same {t : State} (h : HoldsCartridge g c s) (hcart : t.cart = s.cart)
    (hconfig : t.config = s.config) : HoldsCartridge g c t := by
  unfold HoldsCartridge
  rw [hcart, hconfig]
  exact h

theorem HoldsCartridge.ppuWrite (h : HoldsCartridge g c s) (a : PpuAddr) (v : Byte) :
    HoldsCartridge g c (ppuWrite a v s) := by
  unfold Machine.ppuWrite
  split
  · next k hk =>
    obtain ⟨hg, d, hd, hb⟩ := h
    rw [hd] at hk
    exact ⟨hg, k, rfl, (cartPpuWrite_buffersOnly _ hk).trans hb⟩
  · split
    · exact h
    · split <;> exact h

theorem HoldsCartridge.ppuPortWrite (h : HoldsCartridge g c s) (port : PpuPort) (v : Byte) :
    HoldsCartridge g c (ppuPortWrite port v s) := by
  cases port with
  | data => exact h.ppuWrite _ v
  | ctrl | mask | status | oamAddr | oamData | scroll | addr => exact h

theorem HoldsCartridge.memWrite (h : HoldsCartridge g c s) (a : Word) (v : Byte) :
    HoldsCartridge g c (memWrite a v s) := by
  unfold Machine.memWrite
  split
  · next k hk =>
    obtain ⟨rfl, d, hd, hb⟩ := h
    rw [hd] at hk
    exact ⟨rfl, k, rfl, (cartCpuWrite_buffersOnly hk).trans hb⟩
  · split
    · exact h
    · split
      · exact h.ppuPortWrite _ v
      · split
        · exact h
        · split
          · cases controllerOf a <;> exact h
          · exact h

end

theorem holdsCartridge_busInvariant (g : Params) (c : Cartridge) : BusInvariant (HoldsCartridge g c) where
  cpu := fun _ _ h => h
  read := fun a s h => h.of_same (memRead_cart a s) (memRead_config a s)
  write := fun a v _ h => h.memWrite a v

/-- A DMA step reads the bus and writes OAM (R462). -/
theorem dmaStep_frame (s : State) :
    (dmaStep s).cpu = s.cpu ∧ (dmaStep s).cart = s.cart ∧ (dmaStep s).config = s.config := by
  unfold dmaStep
  split
  · split <;> exact ⟨rfl, rfl, rfl⟩
  · split
    · exact ⟨memRead_cpu _ s, memRead_cart _ s, memRead_config _ s⟩
    · exact ⟨rfl, rfl, rfl⟩

/-- Settles O37, by the induction over ticks. -/
theorem cartridgeIsConstant : Obligations.CartridgeIsConstant := by
  intro s t c hc ht
  have hs : HoldsCartridge s.config c s := ⟨rfl, c, hc, .refl _ c⟩
  refine (holdsCartridge_busInvariant s.config c).step (fun s h => ?_) (fun s h => ?_) (fun _ h => h)
    (fun _ _ h => h) hs ht
  · exact h.of_same (ppuClock_cart s) (ppuClock_config s)
  · obtain ⟨-, hcart, hconfig⟩ := dmaStep_frame s
    exact h.of_same hcart hconfig

end Sys2Proof.Machine
end

section
/-! O34: every tick keeps the invariant. The memories, the raster and the status register are kept by every bus access,
so the induction over ticks gives them; the rest, the CPU against the DMA engine, is a case split over what the CPU's part
of a tick can be. -/

namespace Sys2Proof.Machine

open Sys2Proof.Claim

/-! ### The raster, the status register and the NMI request -/

/-- `q` has the raster position and the NMI request of `p`, and its status but perhaps for a cleared bit 7. -/
def PortsOnly (q p : Ppu) : Prop :=
  q.cycle = p.cycle ∧ q.scanline = p.scanline ∧ q.nmi = p.nmi ∧ (q.status = p.status ∨ q.status = p.status &&& 0x7F#8)

theorem PortsOnly.refl (p : Ppu) : PortsOnly p p := ⟨rfl, rfl, rfl, .inl rfl⟩

theorem ppuWrite_portsOnly (a : PpuAddr) (v : Byte) (s : State) : PortsOnly (ppuWrite a v s).ppu s.ppu := by
  unfold ppuWrite
  split
  · exact .refl _
  · split
    · unfold patternWrite
      split <;> exact .refl _
    · split
      · unfold nametableWrite
        split <;> exact .refl _
      · exact .refl _

theorem ppuPortRead_portsOnly (port : PpuPort) (s : State) : PortsOnly (ppuPortRead port s).2.ppu s.ppu := by
  cases port with
  | status => exact ⟨rfl, rfl, rfl, .inr rfl⟩
  | ctrl | mask | oamAddr | oamData | scroll | addr | data => exact .refl _

theorem ppuPortWrite_portsOnly (port : PpuPort) (v : Byte) (s : State) :
    PortsOnly (ppuPortWrite port v s).ppu s.ppu := by
  cases port with
  | ctrl | mask | status | oamAddr | oamData => exact .refl _
  | scroll =>
    unfold ppuPortWrite scrollWrite
    simp only
    split <;> exact .refl _
  | addr =>
    unfold ppuPortWrite addrWrite
    simp only
    split <;> exact .refl _
  | data => exact ppuWrite_portsOnly _ v s

theorem memRead_portsOnly (a : Word) (s : State) : PortsOnly (memRead a s).2.ppu s.ppu := by
  unfold memRead
  split
  · exact .refl _
  · split
    · exact .refl _
    · split
      · exact ppuPortRead_portsOnly _ s
      · split
        · cases controllerOf a <;> exact .refl _
        · exact .refl _

theorem memWrite_portsOnly (a : Word) (v : Byte) (s : State) : PortsOnly (memWrite a v s).ppu s.ppu := by
  unfold memWrite
  split
  · exact .refl _
  · split
    · exact .refl _
    · split
      · exact ppuPortWrite_portsOnly _ v s
      · split
        · exact .refl _
        · split
          · cases controllerOf a <;> exact .refl _
          · exact .refl _

theorem rasterOk_iff {p : Ppu} : p.rasterOk = true ↔ p.cycle ≤ 340 ∧ -1 ≤ p.scanline ∧ p.scanline ≤ 260 := by
  simp only [Ppu.rasterOk, Bool.and_eq_true, decide_eq_true_eq, and_assoc]

theorem statusOk_iff {p : Ppu} : p.statusOk = true ↔ p.status &&& 0x7F#8 = 0x00#8 := decide_eq_true_iff

theorem PortsOnly.rasterOk {q p : Ppu} (h : PortsOnly q p) : q.rasterOk = p.rasterOk := by
  obtain ⟨hcycle, hline, -, -⟩ := h
  rw [Ppu.rasterOk, Ppu.rasterOk, hcycle, hline]

theorem PortsOnly.statusOk {q p : Ppu} (h : PortsOnly q p) (hp : p.statusOk = true) : q.statusOk = true := by
  obtain ⟨-, -, -, hs⟩ := h
  rw [statusOk_iff] at hp ⊢
  rcases hs with hs | hs
  · rw [hs, hp]
  · rw [hs, hp]
    rfl

theorem PortsOnly.nmi {q p : Ppu} (h : PortsOnly q p) : q.nmi = p.nmi := by
  obtain ⟨-, -, hnmi, -⟩ := h
  exact hnmi

theorem rasterOk_busInvariant : BusInvariant (fun s => s.ppu.rasterOk = true) where
  cpu := fun _ _ h => h
  read := fun a s h => (memRead_portsOnly a s).rasterOk.trans h
  write := fun a v s h => (memWrite_portsOnly a v s).rasterOk.trans h

theorem statusOk_busInvariant : BusInvariant (fun s => s.ppu.statusOk = true) where
  cpu := fun _ _ h => h
  read := fun a s h => (memRead_portsOnly a s).statusOk h
  write := fun a v s h => (memWrite_portsOnly a v s).statusOk h

theorem nmi_busInvariant (b : Bool) : BusInvariant (fun s => s.ppu.nmi = b) where
  cpu := fun _ _ h => h
  read := fun a s h => (memRead_portsOnly a s).nmi.trans h
  write := fun a v s h => (memWrite_portsOnly a v s).nmi.trans h

/-! ### The PPU step -/

theorem skipOddFrame_rasterOk {s : State} (h : s.ppu.rasterOk = true) : (skipOddFrame s).ppu.rasterOk = true := by
  unfold skipOddFrame runIf
  split
  · rw [rasterOk_iff] at h ⊢
    exact ⟨show 1 ≤ 340 by decide, h.2⟩
  · exact h

theorem advanceRaster_rasterOk {s : State} (h : s.ppu.rasterOk = true) : (advanceRaster s).ppu.rasterOk = true := by
  rw [rasterOk_iff] at h ⊢
  unfold advanceRaster
  split
  · split
    · simp
    · simp only
      omega
  · simp only
    omega

/-- A PPU step keeps the raster inside the frame (R400, R426). -/
theorem ppuClock_rasterOk {s : State} (h : s.ppu.rasterOk = true) : (ppuClock s).ppu.rasterOk = true := by
  obtain ⟨hcycle, hline, -, -⟩ := ppuClock_raster s
  rw [Ppu.rasterOk, hcycle, hline]
  exact advanceRaster_rasterOk (skipOddFrame_rasterOk h)

theorem scrollUpdate_status (f : Loopy → Loopy → Loopy) (s : State) :
    (scrollUpdate f s).ppu.status = s.ppu.status := by
  unfold scrollUpdate
  split <;> rfl

theorem updateShifters_status (s : State) : (updateShifters s).ppu.status = s.ppu.status := by
  unfold updateShifters
  split <;> rfl

theorem fetchColumn_status (col : Nat) (s : State) : (fetchColumn col s).ppu.status = s.ppu.status := by
  rw [← updateShifters_status s]
  unfold fetchColumn
  simp only
  split
  · rfl
  · rfl
  · rfl
  · rfl
  · exact scrollUpdate_status _ _
  · rfl

theorem statusOk_of_status (t s : State) (h : t.ppu.status = s.ppu.status) (hs : s.ppu.statusOk = true) :
    t.ppu.statusOk = true := by
  rw [Ppu.statusOk, h]
  exact hs

/-- A conditional part of a step. -/
theorem runIf_statusOk {c : Prop} [Decidable c] {f : State → State}
    (hf : ∀ s, s.ppu.statusOk = true → (f s).ppu.statusOk = true) {s : State} (h : s.ppu.statusOk = true) :
    (runIf c f s).ppu.statusOk = true := by
  unfold runIf
  split
  · exact hf s h
  · exact h

theorem preRenderClear_statusOk {s : State} (h : s.ppu.statusOk = true) : (preRenderClear s).ppu.statusOk = true := by
  rw [statusOk_iff] at h ⊢
  show s.ppu.status &&& 0x1F#8 &&& 0x7F#8 = 0x00#8
  rw [BitVec.and_assoc, BitVec.and_comm 0x1F#8, ← BitVec.and_assoc, h]
  rfl

theorem vblankStart_statusOk {s : State} (h : s.ppu.statusOk = true) : (vblankStart s).ppu.statusOk = true := by
  rw [statusOk_iff] at h ⊢
  show (s.ppu.status ||| 0x80#8) &&& 0x7F#8 = 0x00#8
  rw [BitVec.and_comm, BitVec.and_or_distrib_left, BitVec.and_comm, h]
  rfl

theorem renderColumn_statusOk (line : Int) (col : Nat) {s : State} (h : s.ppu.statusOk = true) :
    (renderColumn line col s).ppu.statusOk = true := by
  have scroll : ∀ f s, s.ppu.statusOk = true → (scrollUpdate f s).ppu.statusOk = true :=
    fun f s => statusOk_of_status _ s (scrollUpdate_status f s)
  have nametable : ∀ s, s.ppu.statusOk = true → (fetchNametable s).ppu.statusOk = true :=
    fun s => statusOk_of_status _ s rfl
  have load : ∀ s, s.ppu.statusOk = true → (loadBackgroundShifters s).ppu.statusOk = true :=
    fun s => statusOk_of_status _ s rfl
  unfold renderColumn
  exact runIf_statusOk (scroll _) (runIf_statusOk nametable (runIf_statusOk (fun s h => scroll _ _ (load s h))
    (runIf_statusOk (scroll _) (runIf_statusOk (fun s => statusOk_of_status _ s (fetchColumn_status col s))
      (runIf_statusOk (fun _ => preRenderClear_statusOk) h)))))

/-- A PPU step keeps the unused status bits clear (R36, R416, R418). -/
theorem ppuClock_statusOk {s : State} (h : s.ppu.statusOk = true) : (ppuClock s).ppu.statusOk = true := by
  rw [ppuClock_actions]
  have hskip : (skipOddFrame s).ppu.statusOk = true := by
    rw [skipOddFrame_only]
    exact h
  unfold rasterActions
  exact runIf_statusOk (fun _ => vblankStart_statusOk) (runIf_statusOk (fun _ => renderColumn_statusOk _ _) hskip)

/-! ### The DMA step -/

theorem dmaStep_portsOnly (s : State) : PortsOnly (dmaStep s).ppu s.ppu := by
  unfold dmaStep
  split
  · split <;> exact .refl _
  · split
    · exact memRead_portsOnly _ s
    · exact .refl _

/-! ### The CPU against the DMA engine -/

/-- The engine rests between transfers. -/
theorem dmaIdleOk_iff {b : Bus} :
    b.dmaIdleOk = true ↔ (b.dmaTransfer = false → b.dmaDummy = true ∧ b.dmaAddr = 0x00#8) := by
  unfold Bus.dmaIdleOk
  cases b.dmaTransfer <;> simp

theorem ppuPortWrite_bus (port : PpuPort) (v : Byte) (s : State) : (ppuPortWrite port v s).bus = s.bus :=
  (ppuPortWrite_frame port v s).2.1

/-- A read leaves the DMA engine alone. -/
theorem memRead_dma (a : Word) (s : State) :
    (memRead a s).2.bus.dmaTransfer = s.bus.dmaTransfer ∧ (memRead a s).2.bus.dmaDummy = s.bus.dmaDummy ∧
      (memRead a s).2.bus.dmaAddr = s.bus.dmaAddr := by
  unfold memRead
  split
  · exact ⟨rfl, rfl, rfl⟩
  · split
    · exact ⟨rfl, rfl, rfl⟩
    · split
      · rw [ppuPortRead_frame]
        exact ⟨rfl, rfl, rfl⟩
      · split
        · cases controllerOf a <;> exact ⟨rfl, rfl, rfl⟩
        · exact ⟨rfl, rfl, rfl⟩

/-- A write leaves the DMA engine alone or starts a transfer (R461). -/
theorem memWrite_idle (a : Word) (v : Byte) {s : State} (h : s.bus.dmaIdleOk = true) :
    (memWrite a v s).bus.dmaIdleOk = true := by
  unfold memWrite
  split
  · exact h
  · split
    · exact h
    · split
      · rw [ppuPortWrite_bus]
        exact h
      · split
        · rfl
        · split
          · cases controllerOf a <;> exact h
          · exact h

theorem dmaIdleOk_busInvariant : BusInvariant (fun s => s.bus.dmaIdleOk = true) where
  cpu := fun _ _ h => h
  read := fun a s h => by
    obtain ⟨ht, hd, ha⟩ := memRead_dma a s
    rw [Bus.dmaIdleOk, ht, hd, ha]
    exact h
  write := fun a v _ h => memWrite_idle a v h

/-- A step of a transfer ends it at rest or leaves it in progress (R462). -/
theorem dmaStep_idle {s : State} (h : s.bus.dmaTransfer = true) : (dmaStep s).bus.dmaIdleOk = true := by
  rw [dmaIdleOk_iff]
  unfold dmaStep
  split
  · split <;> exact fun hn => absurd h (Bool.not_eq_true _ ▸ hn)
  · split
    · exact fun hn => absurd h (Bool.not_eq_true _ ▸ (memRead_dma _ s).1 ▸ hn)
    · simp only [dmaWrite, h, Bool.true_and, Bool.not_eq_false', decide_eq_true_eq]
      intro hwrapped
      simp [hwrapped]

/-! ### The countdown -/

/-- The cycles an operation routine can add itself: a taken branch adds one or two (R240). -/
def Routine.ownCycles : Routine → Nat
  | .bcc | .bcs | .beq | .bmi | .bne | .bpl | .bvc | .bvs => 2
  | _ => 0

theorem memRead_cycles (a : Word) (s : State) : (memRead a s).2.cpu.cycles = s.cpu.cycles := by
  rw [memRead_cpu]

theorem memWrite_cycles (a : Word) (v : Byte) (s : State) : (memWrite a v s).cpu.cycles = s.cpu.cycles := by
  rw [memWrite_cpu]

theorem addressing_cycles (o : Operand) (s : State) : (addressing o s).2.cpu.cycles = s.cpu.cycles := by
  cases o with
  | imp | imm | zp0 | zpx | zpy | rel | abs | abx | aby => rfl
  | ind | izx | izy => exact (memRead_cycles _ _).trans (memRead_cycles _ s)

theorem fetchOperand_cycles (o : Operand) (s : State) : (fetchOperand o s).2.cpu.cycles = s.cpu.cycles := by
  cases o with
  | imp | imm => rfl
  | zp0 | zpx | zpy | rel | abs | abx | aby | ind | izx | izy => exact memRead_cycles _ s

theorem storeResult_cycles (o : Operand) (v : Byte) (s : State) : (storeResult o v s).cpu.cycles = s.cpu.cycles := by
  cases o with
  | imp => rfl
  | imm | zp0 | zpx | zpy | rel | abs | abx | aby | ind | izx | izy => exact memWrite_cycles _ v s

/-- Every operation routine but a branch leaves the countdown alone. -/
theorem operation_cycles {r : Routine} (h : r.ownCycles = 0) (o : Operand) (s : State) :
    (r.operation o s).2.cpu.cycles = s.cpu.cycles := by
  cases r with
  | adc | sbc | and | ora | eor | bit | cmp | cpx | cpy | lda | ldx | ldy => exact fetchOperand_cycles o s
  | inc | dec => exact (memWrite_cycles _ _ _).trans (fetchOperand_cycles o s)
  | asl | lsr | rol | ror => exact (storeResult_cycles o _ _).trans (fetchOperand_cycles o s)
  | inx | iny | dex | dey | tax | tay | tsx | txa | txs | tya | jmp | clc | cld | cli | clv | sec | sed | sei | nop
  | filler => rfl
  | sta | stx | sty => exact memWrite_cycles _ _ s
  | pha | php => exact congrArg (fun t => t.cpu.cycles) (push_eq _ s)
  | pla | plp => exact congrArg (fun r => r.2.cpu.cycles) (pull_eq s)
  | jsr => exact congrArg (fun t => t.cpu.cycles) (pushWord_eq _ s)
  | rts => exact congrArg (fun r => r.2.cpu.cycles) (pullWord_eq s)
  | brk => exact congrArg (fun t => t.cpu.cycles) (softwareInterrupt_spec s)
  | rti => exact congrArg (fun t => t.cpu.cycles) (returnFromInterrupt_spec s)
  | bcc | bcs | beq | bmi | bne | bpl | bvc | bvs => cases h

theorem branchOn_cycles (f : Flag) (value : Bool) (o : Operand) (s : State) :
    s.cpu.cycles ≤ (branchOn f value o s).2.cpu.cycles ∧ (branchOn f value o s).2.cpu.cycles ≤ s.cpu.cycles + 2 := by
  unfold branchOn
  simp only
  split
  · have := Bool.toNat_le (pageCrossed s.cpu.pc (branchTarget s.cpu))
    simp only [takeBranch, State.setPc_cycles, State.setCycles_cycles]
    omega
  · omega

theorem operation_cycles_bounds (r : Routine) (o : Operand) (s : State) :
    s.cpu.cycles ≤ (r.operation o s).2.cpu.cycles ∧ (r.operation o s).2.cpu.cycles ≤ s.cpu.cycles + r.ownCycles := by
  by_cases h : r.ownCycles = 0
  · rw [operation_cycles h o s, h]
    exact ⟨Nat.le_refl _, Nat.le_refl _⟩
  · cases r with
    | bcc | bcs | beq | bmi | bne | bpl | bvc | bvs => exact branchOn_cycles _ _ o s
    | _ => exact absurd rfl h

/-- No row is shorter than 2 cycles or longer than 8 (R124). -/
theorem opcodeTable_cycles_bounds : ∀ r ∈ opcodeTable, 2 ≤ r.cycles ∧ r.cycles ≤ 8 := by
  unfold opcodeTable
  simp only [List.forall_mem_append]
  decide

theorem rowOf_cycles_bounds (op : Byte) : 2 ≤ (rowOf op).cycles ∧ (rowOf op).cycles ≤ 8 :=
  opcodeTable_cycles_bounds _ (List.getElem_mem _)

/-- The rows whose routine can add cycles, those of the branches, have 2 (R241 to R248). -/
theorem rowOf_cycles_of_ownCycles {i : Instr} (h : i.routine.ownCycles ≠ 0) : (rowOf i.opcode).cycles = 2 := by
  cases i with
  | bpl | bmi | bvc | bvs | bcc | bcs | bne | beq => rfl
  | _ => exact absurd rfl h

theorem ownCycles_le (r : Routine) : r.ownCycles ≤ 2 := by
  unfold Routine.ownCycles
  split <;> omega

/-- The countdown an instruction starts: a page crossing can add one to the row's and the routine's cycles (R152). -/
theorem exec_cycles_bounds {i : Instr} {s t : State} (h : exec i s = .next t) :
    2 ≤ t.cpu.cycles ∧ t.cpu.cycles ≤ 9 := by
  obtain ⟨hlow, hhigh⟩ := rowOf_cycles_bounds i.opcode
  have hown := ownCycles_le i.routine
  have hbranch : i.routine.ownCycles ≠ 0 → (rowOf i.opcode).cycles = 2 := rowOf_cycles_of_ownCycles
  obtain ⟨hge, hle⟩ := operation_cycles_bounds i.routine i.operand
    (addressing i.operand (s.setCycles (rowOf i.opcode).cycles)).2
  rw [addressing_cycles, State.setCycles_cycles] at hge hle
  have hextra := Bool.toNat_le ((addressing i.operand (s.setCycles (rowOf i.opcode).cycles)).1 &&
    (i.routine.operation i.operand (addressing i.operand (s.setCycles (rowOf i.opcode).cycles)).2).1)
  rw [exec_next h, runInstr]
  simp only [forceUnused_cpu, State.setCycles_cycles]
  omega

/-! ### The CPU's part of the invariant -/

/-- The parts of the invariant that the CPU and the DMA engine decide. -/
structure CpuDmaOk (s : State) : Prop where
  idle : s.bus.dmaIdleOk = true
  held : s.bus.dmaTransfer = true → 1 ≤ s.cpu.cycles
  unused : getFlag .u s.cpu.p = true
  bounded : s.cpu.cycles ≤ 8

theorem inv_iff {s : State} :
    s.inv = true ↔
      s.memoriesOk = true ∧ s.ppu.rasterOk = true ∧ s.ppu.statusOk = true ∧ s.ppu.nmi = false ∧ CpuDmaOk s := by
  have hheld : dmaHoldsCpu s = true ↔ (s.bus.dmaTransfer = true → 1 ≤ s.cpu.cycles) := by
    unfold dmaHoldsCpu
    cases s.bus.dmaTransfer <;> simp
  simp only [State.inv, Ppu.nmiConsumed, Bool.and_eq_true, Bool.not_eq_true', decide_eq_true_eq, hheld]
  constructor
  · rintro ⟨⟨⟨⟨⟨⟨⟨hm, hr⟩, hs⟩, hn⟩, hi⟩, hh⟩, hu⟩, hb⟩
    exact ⟨hm, hr, hs, hn, hi, hh, hu, hb⟩
  · rintro ⟨hm, hr, hs, hn, hi, hh, hu, hb⟩
    exact ⟨⟨⟨⟨⟨⟨⟨hm, hr⟩, hs⟩, hn⟩, hi⟩, hh⟩, hu⟩, hb⟩

/-- An instruction and its first count: what is left holds the CPU if a transfer was started (R28, R463). -/
theorem exec_cpuDmaOk {s u : State} (h : CpuDmaOk s) (hu : exec (fetchInstr s).1 (fetchInstr s).2 = .next u) :
    CpuDmaOk (countDown u) := by
  obtain ⟨hlow, hhigh⟩ := exec_cycles_bounds hu
  have hidle : u.bus.dmaIdleOk = true :=
    dmaIdleOk_busInvariant.exec (dmaIdleOk_busInvariant.fetchInstr h.idle) hu
  have hunused : flag .u u = true := exec_unused hu
  refine ⟨hidle, fun _ => ?_, hunused, ?_⟩
  · show 1 ≤ u.cpu.cycles - 1
    omega
  · show u.cpu.cycles - 1 ≤ 8
    omega

theorem countDown_cpuDmaOk {s : State} (h : CpuDmaOk s) (ht : s.bus.dmaTransfer = false) : CpuDmaOk (countDown s) :=
  ⟨h.idle, fun hd => (Bool.false_ne_true (ht.symm.trans hd)).elim, h.unused, (Nat.sub_le _ 1).trans h.bounded⟩

theorem dmaStep_cpuDmaOk {s : State} (h : CpuDmaOk s) (ht : s.bus.dmaTransfer = true) : CpuDmaOk (dmaStep s) := by
  obtain ⟨hcpu, -, -⟩ := dmaStep_frame s
  refine ⟨dmaStep_idle ht, fun _ => ?_, ?_, ?_⟩ <;> rw [hcpu]
  · exact h.held ht
  · exact h.unused
  · exact h.bounded

theorem clockCpuOrDma_cpuDmaOk {s t : State} (h : CpuDmaOk s) (ht : clockCpuOrDma s = .next t) : CpuDmaOk t := by
  rcases clockCpuOrDma_cases ht with ⟨hd, rfl⟩ | ⟨-, -, u, hu, rfl⟩ | ⟨hd, -, rfl⟩ | rfl
  · exact dmaStep_cpuDmaOk h hd
  · exact exec_cpuDmaOk h hu
  · exact countDown_cpuDmaOk h hd
  · exact h

/-- Taking an NMI starts a countdown of 8 and sets U (R330, R332). -/
theorem nmi_cpuDmaOk {s : State} (h : s.bus.dmaIdleOk = true) : CpuDmaOk (nmi s) := by
  refine ⟨dmaIdleOk_busInvariant.nmi h, fun _ => ?_, ?_, ?_⟩
  · show 1 ≤ 8
    decide
  · rw [nmi_spec, interruptEntry_spec 8 s (by decide) (by decide), ← entryStatus_eq]
    simp
  · exact Nat.le_refl 8

theorem endTick_cpuDmaOk {s : State} (h : CpuDmaOk s) : CpuDmaOk (endTick s) := by
  obtain ⟨hi, hh, hu, hb⟩ := h
  unfold endTick
  simp only
  split
  · obtain ⟨hi, hh, hu, hb⟩ := nmi_cpuDmaOk (s := { s with ppu := { s.ppu with nmi := false } }) hi
    exact ⟨hi, hh, hu, hb⟩
  · exact ⟨hi, hh, hu, hb⟩

/-- No NMI is left pending (R323, R451). -/
theorem endTick_nmi_consumed (s : State) : (endTick s).ppu.nmi = false := by
  cases h : s.ppu.nmi with
  | false =>
    rw [endTick_quiet h]
    exact h
  | true =>
    rw [endTick_nmi h]
    exact (nmi_busInvariant false).nmi (s := { s with ppu := { s.ppu with nmi := false } }) rfl

/-- Settles O34: the memories, the raster and the status by the induction over ticks, the CPU and the DMA engine by the
cases of their part of a tick. -/
theorem stepKeepsInvariant : Obligations.StepKeepsInvariant := by
  intro s t hs ht
  obtain ⟨hm, hr, hst, -, hc⟩ := inv_iff.mp hs
  obtain ⟨-, u, hu, he⟩ := step_next ht
  refine inv_iff.mpr ⟨?_, ?_, ?_, ?_, ?_⟩
  · exact memoriesOk_busInvariant.step (fun _ => ppuClock_ok) (fun _ => dmaStep_ok) (fun _ h => h) (fun _ _ h => h) hm ht
  · exact rasterOk_busInvariant.step (fun _ => ppuClock_rasterOk) (fun s h => (dmaStep_portsOnly s).rasterOk.trans h)
      (fun _ h => h) (fun _ _ h => h) hr ht
  · exact statusOk_busInvariant.step (fun _ => ppuClock_statusOk) (fun s h => (dmaStep_portsOnly s).statusOk h)
      (fun _ h => h) (fun _ _ h => h) hst ht
  · rw [he]
    exact endTick_nmi_consumed u
  · rw [he]
    refine endTick_cpuDmaOk (clockCpuOrDma_cpuDmaOk ?_ hu)
    obtain ⟨hi, hh, hu, hb⟩ := hc
    refine ⟨?_, ?_, ?_, ?_⟩ <;> rw [ppuClock_only]
    · exact hi
    · exact hh
    · exact hu
    · exact hb

end Sys2Proof.Machine
end

section
/-! O29: the decimal flag is read by nothing. Setting D commutes with every register write, flag computation, bus access
and mode routine, and so with every operation routine that does not push P or write D. -/

namespace Sys2Proof.Machine

open Sys2Proof.Claim

/-! ### Flags -/

theorem setFlag_comm {f g : Flag} (h : f ≠ g) (on on' : Bool) (p : Byte) :
    setFlag f on (setFlag g on' p) = setFlag g on' (setFlag f on p) := by
  refine status_ext (fun k => ?_)
  simp only [getFlag_setFlag]
  by_cases hk : k = f
  · subst hk
    simp [h]
  · simp [hk]

section

variable (d : Bool)

theorem getFlag_setDecimal {f : Flag} (h : f ≠ .d) (p : Byte) : getFlag f (setFlag .d d p) = getFlag f p := by
  rw [getFlag_setFlag, if_neg h]

theorem carryIn_setDecimal (p : Byte) : carryIn (setFlag .d d p) = carryIn p := by
  rw [carryIn, getFlag_setDecimal d (by decide), carryIn]

theorem addSum_setDecimal (a v p : Byte) : addSum a v (setFlag .d d p) = addSum a v p := by
  rw [addSum, carryIn_setDecimal, addSum]

theorem addResult_setDecimal (a v p : Byte) : addResult a v (setFlag .d d p) = addResult a v p := by
  rw [addResult, addSum_setDecimal, addResult]

theorem rolResult_setDecimal (v p : Byte) : rolResult v (setFlag .d d p) = rolResult v p := by
  rw [rolResult, getFlag_setDecimal d (by decide), rolResult]

theorem rorResult_setDecimal (v p : Byte) : rorResult v (setFlag .d d p) = rorResult v p := by
  rw [rorResult, getFlag_setDecimal d (by decide), rorResult]

theorem setFlag_setDecimal {f : Flag} (h : f ≠ .d) (on : Bool) (p : Byte) :
    setFlag f on (setFlag .d d p) = setFlag .d d (setFlag f on p) :=
  setFlag_comm h on d p

theorem setZN_setDecimal (v p : Byte) : setZN v (setFlag .d d p) = setFlag .d d (setZN v p) := by
  unfold setZN
  rw [setFlag_setDecimal d (by decide), setFlag_setDecimal d (by decide)]

theorem shiftFlags_setDecimal (out : Bool) (r p : Byte) :
    shiftFlags out r (setFlag .d d p) = setFlag .d d (shiftFlags out r p) := by
  unfold shiftFlags
  rw [setFlag_setDecimal d (by decide), setZN_setDecimal]

theorem compareFlags_setDecimal (r v p : Byte) :
    compareFlags r v (setFlag .d d p) = setFlag .d d (compareFlags r v p) := by
  unfold compareFlags
  simp only
  rw [setFlag_setDecimal d (by decide), setFlag_setDecimal d (by decide), setFlag_setDecimal d (by decide)]

theorem bitFlags_setDecimal (a v p : Byte) : bitFlags a v (setFlag .d d p) = setFlag .d d (bitFlags a v p) := by
  unfold bitFlags
  rw [setFlag_setDecimal d (by decide), setFlag_setDecimal d (by decide), setFlag_setDecimal d (by decide)]

theorem addFlags_setDecimal (a v p : Byte) : addFlags a v (setFlag .d d p) = setFlag .d d (addFlags a v p) := by
  unfold addFlags
  simp only [addResult_setDecimal, addSum_setDecimal]
  rw [setFlag_setDecimal d (by decide), setFlag_setDecimal d (by decide), setFlag_setDecimal d (by decide),
    setFlag_setDecimal d (by decide)]

theorem subFlags_setDecimal (a v p : Byte) : subFlags a v (setFlag .d d p) = setFlag .d d (subFlags a v p) := by
  unfold subFlags
  simp only [addResult_setDecimal, addSum_setDecimal]
  rw [setFlag_setDecimal d (by decide), setFlag_setDecimal d (by decide), setFlag_setDecimal d (by decide),
    setFlag_setDecimal d (by decide)]

/-! ### Registers and the bus -/

variable (s : State)

theorem setP_withDecimal (p : Byte) : (withDecimal d s).setP (setFlag .d d p) = withDecimal d (s.setP p) := rfl

theorem memRead_withDecimal (a : Word) :
    memRead a (withDecimal d s) = ((memRead a s).1, withDecimal d (memRead a s).2) := by
  unfold withDecimal State.setP
  rw [memRead_withCpu, memRead_cpu]

theorem memWrite_withDecimal (a : Word) (v : Byte) :
    memWrite a v (withDecimal d s) = withDecimal d (memWrite a v s) := by
  unfold withDecimal State.setP
  rw [memWrite_withCpu, memWrite_cpu]

theorem memReadWord_withDecimal (a b : Word) :
    memReadWord a b (withDecimal d s) = ((memReadWord a b s).1, withDecimal d (memReadWord a b s).2) := by
  simp only [memReadWord, memRead_withDecimal]

theorem push_withDecimal (v : Byte) : push v (withDecimal d s) = withDecimal d (push v s) := by
  show (memWrite (stackAddress s.cpu.s) v (withDecimal d s)).setS (s.cpu.s - 1#8) = _
  rw [memWrite_withDecimal]
  rfl

theorem pushWord_withDecimal (w : Word) : pushWord w (withDecimal d s) = withDecimal d (pushWord w s) := by
  unfold pushWord
  rw [push_withDecimal, push_withDecimal]

theorem pull_withDecimal : pull (withDecimal d s) = ((pull s).1, withDecimal d (pull s).2) :=
  memRead_withDecimal d (s.setS (s.cpu.s + 1#8)) _

theorem pullWord_withDecimal : pullWord (withDecimal d s) = ((pullWord s).1, withDecimal d (pullWord s).2) := by
  simp only [pullWord, pull_withDecimal]

theorem addressing_withDecimal (o : Operand) :
    addressing o (withDecimal d s) = ((addressing o s).1, withDecimal d (addressing o s).2) := by
  cases o with
  | imp | imm | zp0 | zpx | zpy | rel | abs | abx | aby => rfl
  | ind | izx | izy =>
    simp only [addressing]
    rw [memReadWord_withDecimal]
    rfl

theorem fetchOperand_withDecimal (o : Operand) :
    fetchOperand o (withDecimal d s) = ((fetchOperand o s).1, withDecimal d (fetchOperand o s).2) := by
  cases o with
  | imp | imm => rfl
  | zp0 | zpx | zpy | rel | abs | abx | aby | ind | izx | izy =>
    simp only [fetchOperand]
    rw [memRead_withDecimal]
    rfl

theorem storeResult_withDecimal (o : Operand) (v : Byte) :
    storeResult o v (withDecimal d s) = withDecimal d (storeResult o v s) := by
  cases o with
  | imp => rfl
  | imm | zp0 | zpx | zpy | rel | abs | abx | aby | ind | izx | izy => exact memWrite_withDecimal d s _ v

end

/-! ### The operation routines -/

/-- Whatever D is, the operation does the same and leaves it. -/
def DecimalBlind (op : Operation) : Prop :=
  ∀ (d : Bool) (o : Operand) (s : State), op o (withDecimal d s) = ((op o s).1, withDecimal d (op o s).2)

/-- An operation that acquires its operand and then changes the state by `f`. -/
theorem decimalBlind_of_fetch {op : Operation} {req : Bool} {f : Operand → Byte → State → State}
    (hop : ∀ o s, op o s = (req, f o (fetchOperand o s).1 (fetchOperand o s).2))
    (hf : ∀ d o v s, f o v (withDecimal d s) = withDecimal d (f o v s)) : DecimalBlind op := by
  intro d o s
  rw [hop, hop, fetchOperand_withDecimal, hf]

/-- Writing to P a status computed from it without regard to D. -/
theorem setP_status_withDecimal {q : Byte → Byte} (hq : ∀ d p, q (setFlag .d d p) = setFlag .d d (q p)) (d : Bool)
    (s : State) : (withDecimal d s).setP (q (withDecimal d s).cpu.p) = withDecimal d (s.setP (q s.cpu.p)) :=
  (congrArg (withDecimal d s).setP (hq d s.cpu.p)).trans (setP_withDecimal d s _)

theorem loadA_withDecimal (d : Bool) (v : Byte) (s : State) : loadA v (withDecimal d s) = withDecimal d (loadA v s) :=
  setP_status_withDecimal (fun d p => setZN_setDecimal d v p) d (s.setA v)

theorem loadX_withDecimal (d : Bool) (v : Byte) (s : State) : loadX v (withDecimal d s) = withDecimal d (loadX v s) :=
  setP_status_withDecimal (fun d p => setZN_setDecimal d v p) d (s.setX v)

theorem loadY_withDecimal (d : Bool) (v : Byte) (s : State) : loadY v (withDecimal d s) = withDecimal d (loadY v s) :=
  setP_status_withDecimal (fun d p => setZN_setDecimal d v p) d (s.setY v)

theorem opAdc_decimalBlind : DecimalBlind opAdc :=
  decimalBlind_of_fetch (f := fun _ v s => (s.setA (addResult s.cpu.a v s.cpu.p)).setP (addFlags s.cpu.a v s.cpu.p))
    (fun _ _ => rfl) (fun d _ v s => by
      show (State.setA (addResult s.cpu.a v (setFlag .d d s.cpu.p)) (withDecimal d s)).setP
        (addFlags s.cpu.a v (setFlag .d d s.cpu.p)) = _
      rw [addResult_setDecimal, addFlags_setDecimal]
      rfl)

theorem opSbc_decimalBlind : DecimalBlind opSbc :=
  decimalBlind_of_fetch
    (f := fun _ v s => (s.setA (addResult s.cpu.a (subOperand v) s.cpu.p)).setP (subFlags s.cpu.a v s.cpu.p))
    (fun _ _ => rfl) (fun d _ v s => by
      show (State.setA (addResult s.cpu.a (subOperand v) (setFlag .d d s.cpu.p)) (withDecimal d s)).setP
        (subFlags s.cpu.a v (setFlag .d d s.cpu.p)) = _
      rw [addResult_setDecimal, subFlags_setDecimal]
      rfl)

theorem logicOnA_decimalBlind (g : Byte → Byte → Byte) : DecimalBlind (logicOnA g) :=
  decimalBlind_of_fetch (f := fun _ v s => loadA (g s.cpu.a v) s) (fun _ _ => rfl)
    (fun d _ v s => loadA_withDecimal d (g s.cpu.a v) s)

theorem opBit_decimalBlind : DecimalBlind opBit :=
  decimalBlind_of_fetch (f := fun _ v s => s.setP (bitFlags s.cpu.a v s.cpu.p)) (fun _ _ => rfl)
    (fun d _ v s => setP_status_withDecimal (fun d p => bitFlags_setDecimal d s.cpu.a v p) d s)

theorem compareWith_decimalBlind {reg : Cpu → Byte} (hreg : ∀ d s, reg (withDecimal d s).cpu = reg s.cpu) (extra : Bool) :
    DecimalBlind (compareWith reg extra) :=
  decimalBlind_of_fetch (f := fun _ v s => s.setP (compareFlags (reg s.cpu) v s.cpu.p)) (fun _ _ => rfl)
    (fun d _ v s => by
      rw [hreg]
      exact setP_status_withDecimal (fun d p => compareFlags_setDecimal d (reg s.cpu) v p) d s)

theorem modifyMemory_decimalBlind (g : Byte → Byte) : DecimalBlind (modifyMemory g) := by
  refine decimalBlind_of_fetch (f := fun _ v s =>
    (memWrite s.cpu.addrAbs (g v) s).setP (setZN (g v) (memWrite s.cpu.addrAbs (g v) s).cpu.p)) (fun _ _ => rfl)
    (fun d _ v s => ?_)
  have h := memWrite_withDecimal d s s.cpu.addrAbs (g v)
  show (memWrite s.cpu.addrAbs (g v) (withDecimal d s)).setP
    (setZN (g v) (memWrite s.cpu.addrAbs (g v) (withDecimal d s)).cpu.p) = _
  rw [h]
  exact setP_status_withDecimal (fun d p => setZN_setDecimal d (g v) p) d _

theorem shiftWith_decimalBlind {result : Byte → Byte → Byte} (hr : ∀ d v p, result v (setFlag .d d p) = result v p)
    (out : Byte → Bool) : DecimalBlind (shiftWith result out) := by
  refine decimalBlind_of_fetch (f := fun o v s =>
    storeResult o (result v s.cpu.p) (s.setP (shiftFlags (out v) (result v s.cpu.p) s.cpu.p))) (fun _ _ => rfl)
    (fun d o v s => ?_)
  show storeResult o (result v (setFlag .d d s.cpu.p))
    ((withDecimal d s).setP (shiftFlags (out v) (result v (setFlag .d d s.cpu.p)) (setFlag .d d s.cpu.p))) = _
  rw [hr, shiftFlags_setDecimal, setP_withDecimal, storeResult_withDecimal]

theorem branchOn_decimalBlind {f : Flag} (hf : f ≠ .d) (value : Bool) : DecimalBlind (branchOn f value) := by
  intro d o s
  have h : getFlag f (withDecimal d s).cpu.p = getFlag f s.cpu.p := getFlag_setDecimal d hf s.cpu.p
  unfold branchOn
  simp only [h]
  split <;> rfl

theorem writeFlag_decimalBlind {f : Flag} (hf : f ≠ .d) (on : Bool) : DecimalBlind (writeFlag f on) :=
  fun d _ s => congrArg (Prod.mk false) (setP_status_withDecimal (fun d p => setFlag_setDecimal d hf on p) d s)

/-- Every routine but those that push P or write D (R25). -/
theorem operation_decimalBlind {r : Routine} (h : r.mnemonic ∉ ["PHP", "BRK", "CLD", "SED", "PLP", "RTI"]) :
    DecimalBlind r.operation := by
  cases r with
  | adc => exact opAdc_decimalBlind
  | sbc => exact opSbc_decimalBlind
  | and | ora | eor => exact logicOnA_decimalBlind _
  | bit => exact opBit_decimalBlind
  | cmp | cpx | cpy => exact compareWith_decimalBlind (fun _ _ => rfl) _
  | inc | dec =>
    dsimp only [Routine.operation]
    exact modifyMemory_decimalBlind _
  | asl | lsr =>
    dsimp only [Routine.operation]
    exact shiftWith_decimalBlind (fun _ _ _ => rfl) _
  | rol =>
    dsimp only [Routine.operation]
    exact shiftWith_decimalBlind rolResult_setDecimal _
  | ror =>
    dsimp only [Routine.operation]
    exact shiftWith_decimalBlind rorResult_setDecimal _
  | bcc | bcs | beq | bmi | bne | bpl | bvc | bvs => exact branchOn_decimalBlind (by decide) _
  | clc | cli | clv | sec | sei => exact writeFlag_decimalBlind (by decide) _
  | inx | dex | tax | tsx => exact fun d _ s => congrArg (Prod.mk false) (loadX_withDecimal d _ s)
  | iny | dey | tay => exact fun d _ s => congrArg (Prod.mk false) (loadY_withDecimal d _ s)
  | txa | tya => exact fun d _ s => congrArg (Prod.mk false) (loadA_withDecimal d _ s)
  | txs | jmp | nop | filler => exact fun _ _ _ => rfl
  | lda => exact decimalBlind_of_fetch (fun _ _ => rfl) (fun d _ v s => loadA_withDecimal d v s)
  | ldx => exact decimalBlind_of_fetch (fun _ _ => rfl) (fun d _ v s => loadX_withDecimal d v s)
  | ldy => exact decimalBlind_of_fetch (fun _ _ => rfl) (fun d _ v s => loadY_withDecimal d v s)
  | sta | stx | sty => exact fun d _ s => congrArg (Prod.mk false) (memWrite_withDecimal d s _ _)
  | pha => exact fun d _ s => congrArg (Prod.mk false) (push_withDecimal d s _)
  | pla =>
    intro d o s
    have hpull := congrArg (fun r => (false, loadA r.1 r.2)) (pull_withDecimal d s)
    exact hpull.trans (congrArg (Prod.mk false) (loadA_withDecimal d _ _))
  | jsr =>
    intro d o s
    have hpush := pushWord_withDecimal d s (s.cpu.pc - 1#16)
    exact congrArg (fun t => (false, t.setPc t.cpu.addrAbs)) hpush
  | rts =>
    intro d o s
    exact congrArg (fun r => (false, r.2.setPc (r.1 + 1#16))) (pullWord_withDecimal d s)
  | php | brk | cld | sed | plp | rti => exact absurd (by decide) h

theorem forceUnused_withDecimal (d : Bool) (s : State) : forceUnused (withDecimal d s) = withDecimal d (forceUnused s) :=
  setP_status_withDecimal (fun d p => setFlag_setDecimal d (by decide) true p) d s

/-- A whole instruction of a blind operation. -/
theorem runInstr_withDecimal {op : Operation} (h : DecimalBlind op) (base : Nat) (o : Operand) (d : Bool) (s : State) :
    runInstr base o op (withDecimal d s) = withDecimal d (runInstr base o op s) := by
  have hmode : addressing o ((withDecimal d s).setCycles base) =
      ((addressing o (s.setCycles base)).1, withDecimal d (addressing o (s.setCycles base)).2) :=
    addressing_withDecimal d (s.setCycles base) o
  have hop := h d o (addressing o (s.setCycles base)).2
  unfold runInstr
  simp only [hmode, hop]
  generalize op o (addressing o (s.setCycles base)).2 = done
  exact forceUnused_withDecimal d (done.2.setCycles (done.2.cpu.cycles + _))

/-- Settles O29, by the operation routines one family at a time. -/
theorem decimalFlagIsReadByNothing : Obligations.DecimalFlagIsReadByNothing := by
  intro i d s h
  rw [mnemonic, mnemonic_routine] at h
  have hconfig : (withDecimal d s).config = s.config := rfl
  rw [exec_routine, exec_routine, hconfig]
  split
  · rfl
  · rw [runInstr_withDecimal (operation_decimalBlind h)]
    rfl

end Sys2Proof.Machine
end

section
/-! O41 to O45: the CPU bus by its regions (R71 to R83): work RAM, the PPU's ports, the unmapped addresses, the
controller ports and PRG space, each with its reads and its writes as equations. -/

namespace Sys2Proof.Machine

open Sys2Proof.Claim

/-- Settles O41, by the law of one RAM write. -/
theorem ramAndItsMirrors : Obligations.RamAndItsMirrors := by
  intro s a b v ha hb
  refine ⟨by rw [memRead_low s hb], ?_, by rw [memWrite_low v s ha]⟩
  rw [memWrite_low v s ha, memRead_low _ hb, memRead_low s hb]
  simp only [Memory.read_write, eq_comm]

/-! ### Between the PPU's ports and PRG space -/

/-- From 0x4000 to 0x7FFF only the controller ports answer a read (R71, R73). -/
theorem memRead_unmapped {a : Word} (s : State) (h1 : 0x4000 ≤ a.toNat) (h2 : a.toNat ≤ 0x7FFF)
    (h3 : a.toNat ≠ 0x4016) (h4 : a.toNat ≠ 0x4017) : memRead a s = (0x00#8, s) := by
  unfold memRead
  rw [cartCpuRead_low (by omega)]
  dsimp only
  rw [if_neg (by omega), if_neg (by omega), if_neg (by omega)]

/-- There only the DMA register and the controller ports take a write (R72, R73). -/
theorem memWrite_unmapped {a : Word} (v : Byte) (s : State) (h1 : 0x4000 ≤ a.toNat) (h2 : a.toNat ≤ 0x7FFF)
    (h3 : a.toNat ≠ 0x4014) (h4 : a.toNat ≠ 0x4016) (h5 : a.toNat ≠ 0x4017) : memWrite a v s = s := by
  unfold memWrite
  rw [cartCpuWrite_low (by omega)]
  dsimp only
  rw [if_neg (by omega), if_neg (by omega), if_neg (by omega), if_neg (by omega)]

/-- Settles O42. -/
theorem unmappedAddresses : Obligations.UnmappedAddresses :=
  fun s _ v => ⟨memRead_unmapped s, memWrite_unmapped v s⟩

/-! ### Reads with an effect -/

/-- PPUSTATUS and PPUDATA are the mirrors of ports 2 and 7 (R75). -/
theorem mod_of_portOf {a : Word} (h : portOf a = .status ∨ portOf a = .data) : a.toNat % 8 = 2 ∨ a.toNat % 8 = 7 := by
  have hlt : a.toNat % 8 < 8 := Nat.mod_lt _ (by decide)
  rw [portOf_eq] at h
  generalize a.toNat % 8 = n at h hlt ⊢
  interval_cases n <;> simp at h ⊢

/-- Only PPUSTATUS and PPUDATA change anything when read (R98). -/
theorem ppuPortRead_state {port : PpuPort} (s : State) (h1 : port ≠ .status) (h2 : port ≠ .data) :
    (ppuPortRead port s).2 = s := by
  cases port with
  | status => exact absurd rfl h1
  | data => exact absurd rfl h2
  | ctrl | mask | oamAddr | oamData | scroll | addr => rfl

/-- Settles O43, one region of the CPU bus at a time. -/
theorem peekAndReadAgree : Obligations.PeekAndReadAgree := by
  intro s a
  refine ⟨(memRead_value a s).symm, fun hport h4016 h4017 => ?_⟩
  by_cases hram : a.toNat ≤ 0x1FFF
  · rw [memRead_low s hram]
  by_cases hppu : a.toNat ≤ 0x3FFF
  · rw [memRead_port s (by omega) hppu]
    have hother : ¬ (portOf a = .status ∨ portOf a = .data) :=
      fun h => hport ⟨by omega, hppu, mod_of_portOf h⟩
    exact ppuPortRead_state s (fun h => hother (.inl h)) (fun h => hother (.inr h))
  by_cases hprg : 0x8000 ≤ a.toNat
  · rw [memRead_high s hprg]
  · rw [memRead_unmapped s (by omega) (by omega) h4016 h4017]

/-! ### PRG space -/

/-- Settles O44, by the offset of a PRG address. -/
theorem prgSpace : Obligations.PrgSpace := by
  intro s c a v hc hn ha
  have hmap := cpuMap_eq c ha hn
  refine ⟨?_, fun hmode => ?_, fun hmode => ?_⟩
  · simp only [memRead_high s ha, hc, cartCpuRead, hmap, Option.map_some, Option.getD_some]
  · simp only [memWrite_high v s ha, hc, cartCpuWrite, hmap, hmode, Option.some_or]
  · simp only [memWrite_high v s ha, hc, cartCpuWrite, hmap, hmode, Option.some_or]
    rw [← hc]

/-! ### The controller ports -/

/-- The CPU address of a controller port (R71). -/
def controllerPort : Controller → Word
  | .first => 0x4016#16
  | .second => 0x4017#16

/-- The host's snapshot of a controller (R31). -/
def controllerInput : Controller → Bus → Byte
  | .first, b => b.controllerInput0
  | .second, b => b.controllerInput1

/-- The state with the shift latch of a controller port replaced. -/
def State.withLatch (c : Controller) (latch : Byte) (s : State) : State :=
  match c with
  | .first => { s with bus := { s.bus with controllerState0 := latch } }
  | .second => { s with bus := { s.bus with controllerState1 := latch } }

/-- A read of a controller port gives bit 7 of its latch and shifts the latch (R77). -/
theorem memRead_controllerPort (c : Controller) (latch : Byte) (s : State) :
    memRead (controllerPort c) (s.withLatch c latch) = (controllerBit latch, s.withLatch c (latch <<< 1)) := by
  unfold memRead
  cases c with
  | first => rw [cartCpuRead_low (by decide)]; rfl
  | second => rw [cartCpuRead_low (by decide)]; rfl

/-- A write of any value to a controller port latches its snapshot (R78). -/
theorem memWrite_controllerPort (c : Controller) (v : Byte) (s : State) :
    memWrite (controllerPort c) v s = s.withLatch c (controllerInput c s.bus) := by
  unfold memWrite
  cases c with
  | first => rw [cartCpuWrite_low (by decide)]; rfl
  | second => rw [cartCpuWrite_low (by decide)]; rfl

/-- `n` reads of a controller port give bit 7 of the latch as it is shifted. -/
theorem readsOf_controllerPort (c : Controller) (s : State) (n : Nat) :
    ∀ latch : Byte, readsOf (controllerPort c) n (s.withLatch c latch) =
      ((List.range n).map (fun j => controllerBit (latch <<< j)), s.withLatch c (latch <<< n)) := by
  induction n with
  | zero => intro latch; simp [readsOf]
  | succ n ih =>
    intro latch
    have hshift (j : Nat) : latch <<< 1 <<< j = latch <<< (j + 1) := by rw [← BitVec.shiftLeft_add, Nat.add_comm]
    simp only [readsOf, memRead_controllerPort, ih, hshift, List.range_succ_eq_map, List.map_cons, List.map_map]
    simp [Function.comp_def]

/-- The bit a read returns after `j` shifts is bit `7 - j` of the latch. -/
theorem controllerBit_shiftLeft (latch : Byte) {j : Nat} (h : j < 8) :
    controllerBit (latch <<< j) = if latch.getLsbD (7 - j) then 0x01#8 else 0x00#8 := by
  have hbit : ∀ v : Byte, controllerBit v = if v.getLsbD 7 then 0x01#8 else 0x00#8 := by decide
  rw [hbit, BitVec.getLsbD_shiftLeft, decide_eq_false (by omega : ¬ 7 < j)]
  rfl

/-- Once all eight bits are shifted out the latch is empty. -/
theorem shiftLeft_eight_add (latch : Byte) (k : Nat) : latch <<< (8 + k) = 0x00#8 :=
  BitVec.shiftLeft_eq_zero (Nat.le_add_right 8 k)

/-- The reads that follow a write to a controller port, for either port. -/
theorem readsOf_after_memWrite (c : Controller) (v : Byte) (k : Nat) (s : State) :
    readsOf (controllerPort c) (8 + k) (memWrite (controllerPort c) v s) =
      ((List.range 8).map (fun j => if (controllerInput c s.bus).getLsbD (7 - j) then 0x01#8 else 0x00#8) ++
        List.replicate k 0x00#8, s.withLatch c 0x00#8) := by
  rw [memWrite_controllerPort, readsOf_controllerPort, shiftLeft_eight_add, List.range_add, List.map_append]
  have hbits := List.map_congr_left (fun j hj =>
    controllerBit_shiftLeft (controllerInput c s.bus) (List.mem_range.mp hj))
  have hzeros (j : Nat) : controllerBit (controllerInput c s.bus <<< (8 + j)) = 0x00#8 := by
    rw [shiftLeft_eight_add]
    rfl
  simp only [hbits, hzeros, List.map_map, Function.comp_def, List.map_const', List.length_range]

/-- Settles O45, by the shift register of either port. -/
theorem controllerShiftsOutSnapshot : Obligations.ControllerShiftsOutSnapshot := by
  intro s v k
  have h (c : Controller) := readsOf_after_memWrite c v k s
  exact ⟨Prod.ext_iff.mp (h .first), Prod.ext_iff.mp (h .second)⟩

end Sys2Proof.Machine
end

section
/-! O53: the PPU bus by its regions (R87 to R95): CHR, the nametables and the palette, each with what a read after a
write to it gives. -/

namespace Sys2Proof.Machine

open Sys2Proof.Claim

/-! ### Addresses in numbers -/

/-- The offset of a nametable address in its bank as a number (R90). -/
theorem ntOffset_eq (a : PpuAddr) : ntOffset a = a.toNat % 1024 := by
  unfold ntOffset
  rw [BitVec.toNat_and]
  exact Nat.and_two_pow_sub_one_eq_mod a.toNat 10

/-- The nametable bank of an address as a number (R93). -/
theorem ntBank_eq (m : Mirror) (a : PpuAddr) : ntBank m a = decide (nametableBank m a = 1) := by
  cases m with
  | horizontal =>
    simp only [ntBank, nametableBank, getLsbD_eq_decide]
    exact decide_eq_decide.mpr (by omega)
  | vertical =>
    simp only [ntBank, nametableBank, getLsbD_eq_decide]
    exact decide_eq_decide.mpr (by omega)
  | oneScreenLo => rfl
  | oneScreenHi => rfl

theorem nametableBank_lt (m : Mirror) (a : PpuAddr) : nametableBank m a < 2 := by
  cases m <;> simp only [nametableBank] <;> omega

/-- The palette byte of an address as a number, with its fold (R95). -/
theorem paletteIndex_eq (a : PpuAddr) : paletteIndex a = paletteByte a := by
  have h : (a &&& 0x001F#14).toNat = a.toNat % 32 := by
    rw [BitVec.toNat_and]
    exact Nat.and_two_pow_sub_one_eq_mod a.toNat 5
  simp only [paletteIndex, paletteByte, h]
  split <;> split <;> omega

/-! ### What a byte reads back as -/

theorem ppuReadBack_below {b : PpuAddr} (d : Byte) (s : State) (h : b.toNat ≤ 0x3EFF) : ppuReadBack b d s = d :=
  if_neg (by omega)

theorem ppuReadBack_palette {b : PpuAddr} (d : Byte) (s : State) (h : 0x3F00 ≤ b.toNat) :
    ppuReadBack b d s = d &&& (if s.ppu.grayscale then 0x30#8 else 0x3F#8) := by
  simp only [ppuReadBack, if_pos h, Ppu.grayscale, getLsbD_eq_decide, decide_eq_true_eq, Nat.pow_zero, Nat.div_one]

/-! ### Reads and writes by region -/

section

variable {s : State} {c : Cartridge} {a : PpuAddr} {d : Byte}

/-- What a read of the PPU bus reaches with a cartridge inserted: CHR, a nametable or the palette (R87, R90). -/
theorem ppuRead_eq (hc : s.cart = some c) (b : PpuAddr) :
    ppuRead b s =
      if b.toNat ≤ 0x1FFF then Memory.read c.chr b.toNat
      else if b.toNat ≤ 0x3EFF then nametableRead c.mirror b s.ppu
      else paletteRead b s.ppu := by
  unfold ppuRead
  by_cases h : b.toNat ≤ 0x1FFF
  · simp only [hc, cartPpuRead, ppuMapRead, if_pos h, Option.map_some]
  · simp only [hc, cartPpuRead, ppuMapRead, if_neg h, Option.map_none, mirrorOf]

/-- The same after a change of the PPU alone. -/
theorem ppuRead_withPpu (hc : s.cart = some c) (p : Ppu) (b : PpuAddr) :
    ppuRead b { s with ppu := p } =
      if b.toNat ≤ 0x1FFF then Memory.read c.chr b.toNat
      else if b.toNat ≤ 0x3EFF then nametableRead c.mirror b p
      else paletteRead b p :=
  ppuRead_eq (s := { s with ppu := p }) hc b

/-- A write below 0x2000 reaches CHR RAM (R88). -/
theorem ppuWrite_chrRam (hc : s.cart = some c) (h : a.toNat ≤ 0x1FFF) (hram : c.nChr = 0) :
    ppuWrite a d s = { s with cart := some { c with chr := Memory.write c.chr a.toNat d } } := by
  simp only [ppuWrite, hc, cartPpuWrite, ppuMapWrite, if_pos (And.intro h hram), Option.map_some]

/-- CHR ROM does not take a write: it falls through to the internal pattern tables (R88, R91). -/
theorem ppuWrite_chrRom (hc : s.cart = some c) (h : a.toNat ≤ 0x1FFF) (hrom : c.nChr ≠ 0) :
    ppuWrite a d s = { s with ppu := patternWrite a d s.ppu } := by
  have hmiss : ¬ (a.toNat ≤ 0x1FFF ∧ c.nChr = 0) := fun hh => hrom hh.2
  simp only [ppuWrite, hc, cartPpuWrite, ppuMapWrite, if_neg hmiss, Option.map_none, if_pos h]

theorem ppuWrite_nametable (d : Byte) (s : State) (h1 : 0x2000 ≤ a.toNat) (h2 : a.toNat ≤ 0x3EFF) :
    ppuWrite a d s = { s with ppu := nametableWrite (mirrorOf s.cart) a d s.ppu } := by
  unfold ppuWrite
  rw [cartPpuWrite_high h1]
  dsimp only
  rw [if_neg (by omega), if_pos h2]

theorem ppuWrite_palette (d : Byte) (s : State) (h : 0x3F00 ≤ a.toNat) :
    ppuWrite a d s = { s with ppu := paletteWrite a d s.ppu } := by
  unfold ppuWrite
  rw [cartPpuWrite_high (by omega)]
  dsimp only
  rw [if_neg (by omega), if_neg (by omega)]

/-! ### A read after a write -/

theorem nametableRead_patternWrite (m : Mirror) (a b : PpuAddr) (d : Byte) (p : Ppu) :
    nametableRead m b (patternWrite a d p) = nametableRead m b p := by
  unfold patternWrite
  split <;> rfl

theorem paletteRead_patternWrite (a b : PpuAddr) (d : Byte) (p : Ppu) :
    paletteRead b (patternWrite a d p) = paletteRead b p := by
  unfold patternWrite
  split <;> rfl

theorem paletteRead_nametableWrite (m : Mirror) (a b : PpuAddr) (d : Byte) (p : Ppu) :
    paletteRead b (nametableWrite m a d p) = paletteRead b p := by
  unfold nametableWrite
  split <;> rfl

theorem nametableRead_paletteWrite (m : Mirror) (a b : PpuAddr) (d : Byte) (p : Ppu) :
    nametableRead m b (paletteWrite a d p) = nametableRead m b p := rfl

/-- A nametable byte after a nametable write: the banks and the offsets decide (R93). -/
theorem nametableRead_nametableWrite (m : Mirror) (a b : PpuAddr) (d : Byte) (p : Ppu) :
    nametableRead m b (nametableWrite m a d p) =
      if nametableBank m a = nametableBank m b ∧ a.toNat % 1024 = b.toNat % 1024 then d else nametableRead m b p := by
  have ha := nametableBank_lt m a
  have hb := nametableBank_lt m b
  simp only [nametableRead, nametableWrite, ntBank_eq, ntOffset_eq, decide_eq_true_eq]
  by_cases hbankA : nametableBank m a = 1 <;> by_cases hbankB : nametableBank m b = 1
  · simp [hbankA, hbankB, Memory.read_write, eq_comm]
  · simp [hbankA, hbankB, Ne.symm hbankB]
  · simp [hbankA, hbankB]
  · have h : nametableBank m a = nametableBank m b := by omega
    simp [hbankB, h, Memory.read_write, eq_comm]

/-- A palette byte after a palette write: the folded indices decide (R95). -/
theorem paletteRead_paletteWrite (a b : PpuAddr) (d : Byte) (p : Ppu) :
    paletteRead b (paletteWrite a d p) =
      if paletteByte a = paletteByte b then d &&& (if p.grayscale then 0x30#8 else 0x3F#8) else paletteRead b p := by
  simp only [paletteRead, paletteWrite, paletteIndex_eq, Memory.read_write, Ppu.grayscale]
  by_cases h : paletteByte a = paletteByte b
  · simp [h]
  · simp [h, Ne.symm h]

/-- A read after a write to CHR: CHR RAM holds the byte, CHR ROM is as it was (R87, R88). -/
theorem ppuRead_ppuWrite_chr (hc : s.cart = some c) (ha : a.toNat ≤ 0x1FFF) (b : PpuAddr) (d : Byte) :
    ppuRead b (ppuWrite a d s) = if c.nChr = 0 ∧ a = b then ppuReadBack b d s else ppuRead b s := by
  by_cases hchr : c.nChr = 0
  · rw [ppuWrite_chrRam hc ha hchr, ppuRead_eq rfl, ppuRead_eq hc]
    by_cases hab : a = b
    · subst hab
      simp [ha, hchr, ppuReadBack_below d s (show a.toNat ≤ 0x3EFF by omega)]
    · have hne : b.toNat ≠ a.toNat := fun h => hab (BitVec.eq_of_toNat_eq h.symm)
      simp [hab, Memory.read_write_of_ne _ _ hne]
  · rw [ppuWrite_chrRom hc ha hchr, if_neg (fun h => hchr h.1), ppuRead_withPpu hc, ppuRead_eq hc]
    simp only [nametableRead_patternWrite, paletteRead_patternWrite]

/-- A read after a write to a nametable (R90, R91, R93). -/
theorem ppuRead_ppuWrite_nametable (hc : s.cart = some c) (h1 : 0x2000 ≤ a.toNat) (h2 : a.toNat ≤ 0x3EFF)
    (b : PpuAddr) (d : Byte) :
    ppuRead b (ppuWrite a d s) =
      if (0x2000 ≤ b.toNat ∧ b.toNat ≤ 0x3EFF) ∧ nametableBank c.mirror a = nametableBank c.mirror b ∧
        a.toNat % 1024 = b.toNat % 1024 then ppuReadBack b d s else ppuRead b s := by
  rw [ppuWrite_nametable d s h1 h2, ppuRead_withPpu hc, ppuRead_eq hc]
  simp only [hc, mirrorOf, nametableRead_nametableWrite, paletteRead_nametableWrite]
  by_cases hchr : b.toNat ≤ 0x1FFF
  · simp [hchr, show ¬ 0x2000 ≤ b.toNat by omega]
  by_cases hnt : b.toNat ≤ 0x3EFF
  · simp [hchr, hnt, show 0x2000 ≤ b.toNat by omega, ppuReadBack_below d s hnt]
  · simp [hchr, hnt]

/-- A read after a write to the palette (R95). -/
theorem ppuRead_ppuWrite_palette (hc : s.cart = some c) (ha : 0x3F00 ≤ a.toNat) (b : PpuAddr) (d : Byte) :
    ppuRead b (ppuWrite a d s) =
      if 0x3F00 ≤ b.toNat ∧ paletteByte a = paletteByte b then ppuReadBack b d s else ppuRead b s := by
  rw [ppuWrite_palette d s ha, ppuRead_withPpu hc, ppuRead_eq hc]
  simp only [nametableRead_paletteWrite, paletteRead_paletteWrite]
  by_cases hb : 0x3F00 ≤ b.toNat
  · simp [hb, show ¬ b.toNat ≤ 0x1FFF by omega, show ¬ b.toNat ≤ 0x3EFF by omega, ppuReadBack_palette d s hb]
  · simp [hb, show b.toNat ≤ 0x3EFF by omega]

end

/-! ### The statement -/

/-- A write on the PPU bus changes of the PPU its palette, nametables and pattern tables (R91). -/
theorem ppuWrite_ppu (a : PpuAddr) (d : Byte) (s : State) :
    (ppuWrite a d s).ppu =
      { s.ppu with
        palette := (ppuWrite a d s).ppu.palette, nametable0 := (ppuWrite a d s).ppu.nametable0,
        nametable1 := (ppuWrite a d s).ppu.nametable1, pattern0 := (ppuWrite a d s).ppu.pattern0,
        pattern1 := (ppuWrite a d s).ppu.pattern1 } := by
  unfold ppuWrite
  split
  · rfl
  · split
    · unfold patternWrite
      split <;> rfl
    · split
      · unfold nametableWrite
        split <;> rfl
      · rfl

open Classical in
/-- A read after a write on the PPU bus: the addresses that reach the same byte see it, CHR ROM excepted. -/
theorem ppuRead_ppuWrite {s : State} {c : Cartridge} (hc : s.cart = some c) (a b : PpuAddr) (d : Byte) :
    ppuRead b (ppuWrite a d s) =
      if samePpuByte c a b ∧ (a.toNat ≤ 0x1FFF → c.nChr = 0) then ppuReadBack b d s else ppuRead b s := by
  by_cases hchr : a.toNat ≤ 0x1FFF
  · rw [ppuRead_ppuWrite_chr hc hchr]
    refine if_congr ?_ rfl rfl
    unfold samePpuByte
    grind
  by_cases hnt : a.toNat ≤ 0x3EFF
  · rw [ppuRead_ppuWrite_nametable hc (by omega) hnt]
    refine if_congr ?_ rfl rfl
    unfold samePpuByte
    grind
  · rw [ppuRead_ppuWrite_palette hc (by omega)]
    refine if_congr ?_ rfl rfl
    unfold samePpuByte
    grind

/-- Settles O53, by the law of one write on the PPU bus. -/
theorem ppuBusReadAfterWrite : Obligations.PpuBusReadAfterWrite := by
  intro s c a b d hc
  obtain ⟨hcpu, hbus, hconfig⟩ := ppuWrite_frame a d s
  refine ⟨fun hsame hram => ?_, fun hother => ?_, hcpu, hbus, hconfig, ppuWrite_ppu a d s⟩
  · rw [ppuRead_ppuWrite hc, if_pos ⟨hsame, hram⟩]
  · rw [ppuRead_ppuWrite hc, if_neg]
    rintro ⟨hsame, hram⟩
    rcases hother with hnot | ⟨ha, hrom⟩
    · exact hnot hsame
    · exact hrom (hram ha)

end Sys2Proof.Machine
end

section
/-! O38: the construction of a cartridge from an image (R84, R85): the header in numbers, the answer for every
fault and for an image without one, and the bytes of the buffers built. -/

namespace Sys2Proof.Machine

open Sys2Proof.Claim

/-! ### The header in numbers -/

theorem trainerLength_eq (flags6 : Byte) : trainerLength flags6 = if flags6.toNat / 4 % 2 = 1 then 512 else 0 := by
  simp only [trainerLength, getLsbD_eq_decide, decide_eq_true_eq]
  rfl

/-- PRG begins after the header and the trainer (R84). -/
theorem prgStart_eq (image : List Byte) : 16 + trainerLength (image.getD 6 0x00#8) = prgStart image := by
  rw [trainerLength_eq, prgStart]

theorem imageMirror_eq (flags6 : Byte) :
    imageMirror flags6 = if flags6.toNat % 2 = 1 then .vertical else .horizontal := by
  simp only [imageMirror, getLsbD_eq_decide, decide_eq_true_eq, Nat.pow_zero, Nat.div_one]

/-- Mapper 0 is the mapper number 0 (R84). -/
theorem imageMapperId_eq_zero_iff (image : List Byte) :
    imageMapperId (image.getD 6 0x00#8) (image.getD 7 0x00#8) = 0x00#8 ↔ mapperNumber image = 0 := by
  have hhigh : ∀ flags : Byte, flags &&& 0xF0#8 = 0x00#8 ↔ flags.toNat / 16 = 0 := by decide
  have hlow : ∀ flags : Byte, flags >>> 4 = 0x00#8 ↔ flags.toNat / 16 = 0 := by decide
  rw [imageMapperId, BitVec.or_eq_zero_iff, hhigh, hlow, mapperNumber]
  omega

/-! ### How a construction ends -/

/-- The images that load (R84, R85). -/
def loadable (image : List Byte) : Prop :=
  hasMagic image ∧ mapperNumber image = 0 ∧ prgBanks image ≠ 0 ∧ declaredLength image ≤ image.length

/-- The bytes of an image from `start` on, `size` of them at most. -/
def imageBytes (image : List Byte) (start size : Nat) : Memory := Memory.ofBytes ((image.drop start).take size)

/-- What a loadable image builds (R84). -/
def builtCartridge (image : List Byte) : Cartridge where
  nPrg := prgBanks image
  nChr := chrBanks image
  mapperId := imageMapperId (image.getD 6 0x00#8) (image.getD 7 0x00#8)
  mirror := if (image.getD 6 0x00#8).toNat % 2 = 1 then .vertical else .horizontal
  prg := imageBytes image (prgStart image) (prgBanks image * 16384)
  chr := imageBytes image (prgStart image + prgBanks image * 16384) (chrBanks image * 8192)

open Classical in
/-- The construction in the words of the statement. -/
theorem loadImage_eq (image : List Byte) :
    loadImage image =
      if image.length < 16 then .error .truncated
      else if ¬ hasMagic image then .error .badMagic
      else if ¬ mapperNumber image = 0 then .error .unsupportedMapper
      else if prgBanks image = 0 then .error .noPrgBank
      else if image.length < declaredLength image then .error .truncated
      else .ok (builtCartridge image) := by
  unfold loadImage
  simp only [prgStart_eq, imageMirror_eq, ne_eq, imageMapperId_eq_zero_iff, List.drop_drop]
  exact if_congr Iff.rfl rfl (if_congr Iff.rfl rfl rfl)

/-- Every fault is refused by its name. -/
theorem loadImage_of_refusedWith {image : List Byte} {e : LoadError} (h : refusedWith image e) :
    loadImage image = .error e := by
  rw [loadImage_eq]
  cases e with
  | badMagic =>
    obtain ⟨hlen, hmagic⟩ := h
    rw [if_neg (Nat.not_lt.mpr hlen), if_pos hmagic]
  | unsupportedMapper =>
    obtain ⟨hlen, hmagic, hmapper⟩ := h
    rw [if_neg (Nat.not_lt.mpr hlen), if_neg (not_not.mpr hmagic), if_pos hmapper]
  | noPrgBank =>
    obtain ⟨hlen, hmagic, hmapper, hbank⟩ := h
    rw [if_neg (Nat.not_lt.mpr hlen), if_neg (not_not.mpr hmagic), if_neg (not_not.mpr hmapper), if_pos hbank]
  | truncated =>
    by_cases hheader : image.length < 16
    · rw [if_pos hheader]
    · obtain ⟨hmagic, hmapper, hbank, hlen⟩ := h.resolve_left hheader
      rw [if_neg hheader, if_neg (not_not.mpr hmagic), if_neg (not_not.mpr hmapper), if_neg hbank, if_pos hlen]

theorem loadImage_of_loadable {image : List Byte} (h : loadable image) :
    loadImage image = .ok (builtCartridge image) := by
  obtain ⟨hmagic, hmapper, hbank, hlen⟩ := h
  have hheader : 16 ≤ declaredLength image := by
    unfold declaredLength prgStart
    omega
  rw [loadImage_eq, if_neg (by omega), if_neg (not_not.mpr hmagic), if_neg (not_not.mpr hmapper), if_neg hbank,
    if_neg (Nat.not_lt.mpr hlen)]

/-- An image that does not load has one of the faults of R85. -/
theorem loadable_or_refusedWith (image : List Byte) : loadable image ∨ ∃ e, refusedWith image e := by
  by_cases hheader : image.length < 16
  · exact .inr ⟨.truncated, .inl hheader⟩
  have hheader := Nat.le_of_not_lt hheader
  by_cases hmagic : hasMagic image
  · by_cases hmapper : mapperNumber image = 0
    · by_cases hbank : prgBanks image = 0
      · exact .inr ⟨.noPrgBank, hheader, hmagic, hmapper, hbank⟩
      · by_cases hlen : image.length < declaredLength image
        · exact .inr ⟨.truncated, .inr ⟨hmagic, hmapper, hbank, hlen⟩⟩
        · exact .inl ⟨hmagic, hmapper, hbank, Nat.le_of_not_lt hlen⟩
    · exact .inr ⟨.unsupportedMapper, hheader, hmagic, hmapper⟩
  · exact .inr ⟨.badMagic, hheader, hmagic⟩

theorem loadImage_eq_error_iff {image : List Byte} {e : LoadError} :
    loadImage image = .error e ↔ refusedWith image e := by
  refine ⟨fun h => ?_, loadImage_of_refusedWith⟩
  rcases loadable_or_refusedWith image with hload | ⟨f, hf⟩
  · rw [loadImage_of_loadable hload] at h
    cases h
  · rw [loadImage_of_refusedWith hf, Except.error.injEq] at h
    exact h ▸ hf

theorem loadImage_eq_ok_iff {image : List Byte} {c : Cartridge} :
    loadImage image = .ok c ↔ loadable image ∧ c = builtCartridge image := by
  refine ⟨fun h => ?_, fun ⟨hload, hc⟩ => hc ▸ loadImage_of_loadable hload⟩
  rcases loadable_or_refusedWith image with hload | ⟨f, hf⟩
  · rw [loadImage_of_loadable hload, Except.ok.injEq] at h
    exact ⟨hload, h.symm⟩
  · rw [loadImage_of_refusedWith hf] at h
    cases h

/-! ### The buffers -/

/-- Byte `k` of the buffer is byte `start + k` of the image. -/
theorem read_imageBytes (image : List Byte) (start : Nat) {size k : Nat} (h : k < size) :
    Memory.read (imageBytes image start size) k = image.getD (start + k) 0x00#8 := by
  rw [imageBytes, Memory.read_ofBytes]
  simp [List.getD_eq_getElem?_getD, h]

/-- CHR RAM is zeroed (R84). -/
theorem imageBytes_zero (image : List Byte) (start : Nat) : imageBytes image start 0 = [] := rfl

/-- Settles O38: an image loads or has a fault, and the answer is known in either case. -/
theorem cartridgeFromImage : Obligations.CartridgeFromImage := by
  intro image s
  refine ⟨⟨?_, ?_⟩, fun e => loadImage_eq_error_iff, fun e h => ?_, fun c h => ?_⟩
  · rintro ⟨c, hc⟩
    exact (loadImage_eq_ok_iff.mp hc).1
  · exact fun h => ⟨_, loadImage_eq_ok_iff.mpr ⟨h, rfl⟩⟩
  · simp only [hostOp, insertCartridge, h]
  · have hinsert : hostOp (.insertCartridge image) s = .next { s with cart := some c } := by
      simp only [hostOp, insertCartridge, h]
    have hok := loadImage_ok h
    obtain ⟨⟨-, hmapper, -, -⟩, rfl⟩ := loadImage_eq_ok_iff.mp h
    refine ⟨hinsert, rfl, rfl, (imageMapperId_eq_zero_iff image).mpr hmapper, rfl,
      fun _ => read_imageBytes image _, fun _ => read_imageBytes image _, fun hram k => ?_, hok⟩
    have hram : chrBanks image = 0 := hram
    simp only [builtCartridge, hram, Nat.zero_mul, imageBytes_zero, Memory.read_nil]

end Sys2Proof.Machine
end

section
/-! O1 to O4: encoding (R120 to R127). `Build.Makes` says which instruction a row makes of which operand bytes; the decoder is
exactly that relation, and the encoder its inverse. -/

namespace Sys2Proof

open Machine

/-! ### What a row makes of its operand bytes -/

/-- The way to build makes this instruction of these operand bytes (R121, R122). -/
inductive Build.Makes : Build → List Byte → Instr → Prop
  | implied (i : Instr) : Makes (.implied i) [] i
  | byte (f : Byte → Instr) (b : Byte) : Makes (.byte f) [b] (f b)
  | offset (f : Int → Instr) (b : Byte) : Makes (.offset f) [b] (f b.toInt)
  | word (f : Word → Instr) (lo hi : Byte) : Makes (.word f) [lo, hi] (f (wordOf lo hi))

/-- Enough bytes always make an instruction. -/
theorem Build.exists_makes (build : Build) (b1 b2 : Byte) :
    ∃ i, build.Makes ([b1, b2].take build.operandBytes) i := by
  cases build with
  | implied i => exact ⟨i, .implied i⟩
  | byte f => exact ⟨f b1, .byte f b1⟩
  | offset f => exact ⟨f b1.toInt, .offset f b1⟩
  | word f => exact ⟨f (wordOf b1 b2), .word f b1 b2⟩

theorem decode_of_makes {op : Byte} {operands : List Byte} {i : Instr} (h : (rowOf op).build.Makes operands i)
    (rest : List Byte) : decode (op :: (operands ++ rest)) = .ok (i, rest) := by
  simp only [decode]
  generalize (rowOf op).build = build at h
  cases h <;> rfl

/-- What decodes is an opcode byte and operand bytes of which its row makes the instruction. -/
theorem makes_of_decode {bytes rest : List Byte} {i : Instr} (h : decode bytes = .ok (i, rest)) :
    ∃ op operands, bytes = op :: (operands ++ rest) ∧ (rowOf op).build.Makes operands i := by
  cases bytes with
  | nil => cases h
  | cons op tail =>
    refine ⟨op, ?_⟩
    simp only [decode] at h
    generalize (rowOf op).build = build at h
    split at h
    case h_5 => cases h
    all_goals obtain ⟨rfl, rfl⟩ := Prod.mk.inj (Except.ok.inj h)
    · exact ⟨[], rfl, .implied _⟩
    · next f b _ => exact ⟨[b], rfl, .byte f b⟩
    · next f b _ => exact ⟨[b], rfl, .offset f b⟩
    · next f lo hi _ => exact ⟨[lo, hi], rfl, .word f lo hi⟩

/-! ### The decoder's rows against the encoder's tables -/

theorem offsetFits_toInt (b : Byte) : offsetFits b.toInt = true := by
  have hlow := BitVec.le_toInt b
  have hhigh := BitVec.toInt_lt (x := b)
  simp only [offsetFits, Bool.and_eq_true, decide_eq_true_eq]
  omega

theorem toInt_ofInt_of_offsetFits {r : Int} (h : offsetFits r = true) : (BitVec.ofInt 8 r).toInt = r := by
  simp only [offsetFits, Bool.and_eq_true, decide_eq_true_eq] at h
  rw [BitVec.toInt_ofInt]
  exact Int.bmod_eq_of_le (by omega) (by omega)

/-- An instruction a row makes has the row's opcode and mode, is well-formed, and encodes to the bytes it was made of. -/
theorem spec_of_makes {op : Byte} {operands : List Byte} {i : Instr} (h : (rowOf op).build.Makes operands i) :
    i.wf = true ∧ i.operand.mode = (rowOf op).mode ∧ 1 ≤ (rowOf op).cycles ∧ encode i = op :: operands := by
  have hrow := rowOf_builds op
  unfold Row.builds at hrow
  unfold encode
  generalize (rowOf op).build = build at h hrow
  cases h with
  | implied =>
    obtain ⟨hop, hmode, hbytes, hwf, hcycles⟩ := hrow
    exact ⟨hwf, hmode, hcycles, by rw [hop, hbytes]⟩
  | byte f b =>
    obtain ⟨hop, hmode, hbytes, hwf, hcycles⟩ := hrow b
    exact ⟨hwf, hmode, hcycles, by rw [hop, hbytes]⟩
  | offset f b =>
    obtain ⟨hop, hmode, hoperand, hwf, hcycles⟩ := hrow b.toInt
    refine ⟨hwf.trans (offsetFits_toInt b), hmode, hcycles, ?_⟩
    rw [hop, hoperand, Operand.bytes, BitVec.ofInt_toInt]
  | word f lo hi =>
    obtain ⟨hop, hmode, hbytes, hwf, hcycles⟩ := hrow (wordOf lo hi)
    refine ⟨hwf, hmode, hcycles, ?_⟩
    rw [hop, hbytes]
    exact congrArg₂ (fun l h => [op, l, h]) (lowByte_wordOf lo hi) (highByte_wordOf lo hi)

theorem wf_eq_operand_wf (i : Instr) : i.wf = i.operand.wf := by cases i <;> rfl

/-- Every instruction is what the row of its opcode builds from its operand. -/
theorem rebuild_operand (i : Instr) : (rowOf i.opcode).rebuild i.operand = some i := by cases i <;> rfl

/-- An offset in range is made of its byte. -/
theorem Build.Makes.signedOffset (f : Int → Instr) {r : Int} (h : offsetFits r = true) :
    (Build.offset f).Makes [BitVec.ofInt 8 r] (f r) := by
  have hmakes := Build.Makes.offset f (BitVec.ofInt 8 r)
  rwa [toInt_ofInt_of_offsetFits h] at hmakes

/-- A word is made of its two bytes. -/
theorem Build.Makes.littleEndian (f : Word → Instr) (a : Word) :
    (Build.word f).Makes [a.setWidth 8, (a >>> 8).setWidth 8] (f a) := by
  have hmakes := Build.Makes.word f (lowByte a) (highByte a)
  rw [wordOf, word_of_bytes] at hmakes
  exact hmakes

/-- What a row builds from an operand it makes of the operand's bytes. -/
theorem makes_of_rebuild {r : Row} {o : Operand} {i : Instr} (h : r.rebuild o = some i) (hwf : o.wf = true) :
    r.build.Makes o.bytes i := by
  unfold Row.rebuild at h
  generalize r.build = build at h ⊢
  split at h
  · split at h
    case h_1 => cases h; exact .implied i
    case h_2 | h_3 | h_4 | h_5 | h_6 | h_7 => cases h; exact .byte _ _
    case h_8 => cases h; exact .signedOffset _ hwf
    case h_9 | h_10 | h_11 | h_12 => cases h; exact .littleEndian _ _
    case h_13 => cases h
  · cases h

/-- Every well-formed instruction is made by its opcode's row of its operand's bytes. -/
theorem makes_operand_bytes {i : Instr} (h : i.wf = true) : (rowOf i.opcode).build.Makes i.operand.bytes i :=
  makes_of_rebuild (rebuild_operand i) (wf_eq_operand_wf i ▸ h)

/-- Settles O1: the row of the opcode makes the instruction of its operand bytes, and decoding finds what the row makes. -/
theorem decodeOfEncode : Obligations.DecodeOfEncode :=
  fun _ rest hwf => decode_of_makes (makes_operand_bytes hwf) rest

/-- Settles O2: an opcode byte and the bytes its row was given are the encoding of what the row makes. -/
theorem encodeOfDecode : Obligations.EncodeOfDecode := by
  intro bytes i rest h
  obtain ⟨op, operands, rfl, hmakes⟩ := makes_of_decode h
  obtain ⟨hwf, -, -, hencode⟩ := spec_of_makes hmakes
  exact ⟨hwf, by rw [hencode, List.cons_append]⟩

/-- Settles O3: the first of the two bytes at hand, as many as the row takes, make the instruction. -/
theorem everyOpcodeDecodes : Obligations.EveryOpcodeDecodes := by
  intro op b1 b2 rest
  obtain ⟨i, hmakes⟩ := (rowOf op).build.exists_makes b1 b2
  obtain ⟨-, hmode, hcycles, hencode⟩ := spec_of_makes hmakes
  have hbytes : op :: b1 :: b2 :: rest = encode i ++ ([b1, b2].drop (rowOf op).build.operandBytes ++ rest) := by
    rw [hencode, List.cons_append, ← List.append_assoc, List.take_append_drop]
    rfl
  refine ⟨hcycles, i, ?_, (List.cons.inj hencode).1, hmode, congrArg Mode.length hmode⟩
  rw [hbytes, List.drop_left' (length_encode i), hencode]
  exact decode_of_makes hmakes _

theorem decode_of_encode_eq {i : Instr} {bytes rest : List Byte} (hwf : i.wf = true) (h : encode i ++ rest = bytes) :
    decode bytes = .ok (i, rest) :=
  h ▸ decodeOfEncode i rest hwf

/-- Settles O4: thirteen of the words are encodings of well-formed instructions, the other two lack bytes. -/
theorem sampleWords : Obligations.SampleWords := by
  refine ⟨?_, ?_, ?_, ?_, ?_, ?_, ?_, ?_, ?_, ?_, ?_, ?_, ?_, rfl, rfl⟩
  all_goals exact decode_of_encode_eq (by decide) (by decide)

end Sys2Proof
end

section
/-! O27: the countdown of every instruction as an equation. A page crossing adds a cycle when the mode and the routine both
request it, which is so for the opcodes of R125 alone; only a branch adds cycles itself. -/

namespace Sys2Proof.Machine

open Sys2Proof.Claim

/-! ### The extra cycle of a page crossing (R125, R152) -/

/-- The request for an extra cycle an operation routine returns (R152). -/
def Routine.requestsExtra (r : Routine) (o : Operand) : Bool :=
  match r with
  | .adc | .sbc | .and | .ora | .eor | .cmp | .lda | .ldx | .ldy => true
  | .nop => decide (o.mode = .abx)
  | _ => false

theorem operation_requestsExtra (r : Routine) (o : Operand) (s : State) :
    (r.operation o s).1 = r.requestsExtra o := by
  cases r <;> rfl

/-- The mode's request is the page crossing, in every mode. -/
theorem addressing_crossesPage (o : Operand) (s : State) : (addressing o s).1 = crossesPage o s := by
  cases o with
  | rel | ind => rfl
  | imp | imm | zp0 | zpx | zpy | abs | abx | aby | izx | izy => rw [addressing_eq rfl]

/-- The modes that test the page (R164). -/
def testsPage (o : Operand) : Bool :=
  match o with
  | .abx _ | .aby _ | .izy _ => true
  | _ => false

theorem crossesPage_and_testsPage (o : Operand) (s : State) :
    (testsPage o && crossesPage o s) = crossesPage o s := by
  cases o <;> rfl

/-- The opcodes of R125 are those whose mode tests the page and whose routine requests the cycle. -/
theorem mem_pageExtraOpcodes (i : Instr) :
    decide (i.opcode ∈ pageExtraOpcodes) = (testsPage i.operand && i.routine.requestsExtra i.operand) := by
  cases i <;> rfl

theorem pageExtra_eq (i : Instr) (s : State) :
    (decide (i.opcode ∈ pageExtraOpcodes) && crossesPage i.operand s) =
      (crossesPage i.operand s && i.routine.requestsExtra i.operand) := by
  rw [mem_pageExtraOpcodes, Bool.and_right_comm, crossesPage_and_testsPage]

/-! ### The countdown of an instruction -/

/-- A routine that adds no cycles itself: the base cycles and the page crossing's. -/
theorem runInstr_cycles {r : Routine} (h : r.ownCycles = 0) (base : Nat) (o : Operand) (s : State) :
    (runInstr base o r.operation s).cpu.cycles = base + bit (crossesPage o s && r.requestsExtra o) := by
  rw [runInstr_eq]
  simp only [operation_cycles h, operation_requestsExtra, addressing_cycles, addressing_crossesPage,
    crossesPage_setCycles, State.setCycles_cycles]

/-- A branch: two cycles and its own (R240). -/
theorem runInstr_branch_cycles (f : Flag) (value : Bool) (r : Int) (s : State) :
    (runInstr 2 (.rel r) (branchOn f value) s).cpu.cycles = 2 + branchCost f value r s := by
  rw [runInstr_branch]
  by_cases h : flag f s = value
  · simp only [branchCost, h, decide_true, Bool.true_and, if_true]
    exact Nat.add_assoc 2 1 _
  · simp [branchCost, h, bit]

theorem branchCycles_of_ownCycles {i : Instr} (h : i.routine.ownCycles = 0) (s : State) : branchCycles i s = 0 := by
  cases i with
  | bpl | bmi | bvc | bvs | bcc | bcs | bne | beq => cases h
  | _ => rfl

/-- The instructions that add cycles themselves are the branches (R241 to R248). -/
theorem branch_of_ownCycles {i : Instr} (h : i.routine.ownCycles ≠ 0) :
    ∃ f value r, i.operand = .rel r ∧ i.routine.operation = branchOn f value ∧
      ∀ s, branchCycles i s = branchCost f value r s := by
  cases i with
  | bpl r | bmi r | bvc r | bvs r | bcc r | bcs r | bne r | beq r => exact ⟨_, _, r, rfl, rfl, fun _ => rfl⟩
  | _ => exact absurd rfl h

/-- The countdown every instruction starts (R123, R125, R152, R240). -/
theorem runInstr_routine_cycles (i : Instr) (s : State) :
    (runInstr (rowOf i.opcode).cycles i.operand i.routine.operation s).cpu.cycles =
      (rowOf i.opcode).cycles + bit (decide (i.opcode ∈ pageExtraOpcodes) && crossesPage i.operand s) +
        branchCycles i s := by
  by_cases h : i.routine.ownCycles = 0
  · rw [runInstr_cycles h, pageExtra_eq, branchCycles_of_ownCycles h, Nat.add_zero]
  · obtain ⟨f, value, r, hoperand, hoperation, hcost⟩ := branch_of_ownCycles h
    have hcross : crossesPage (.rel r) s = false := rfl
    rw [hoperand, hoperation, hcost, rowOf_cycles_of_ownCycles h, runInstr_branch_cycles, hcross, Bool.and_false]
    rfl

/-- Settles O27: under FILLER every instruction runs its routine. -/
theorem instructionCycles : Obligations.InstructionCycles := by
  intro i s hfiller
  refine ⟨_, ?_, runInstr_routine_cycles i s⟩
  rw [exec_routine, if_neg]
  rintro ⟨-, hrefuse⟩
  cases hfiller.symm.trans hrefuse

end Sys2Proof.Machine
end

section
/-! O30 to O32: fetching and the tick (R150, R151, R451). A fetch is `readBytes` over the bytes its row reads, with the CPU moved past
the instruction; a tick of a clocked CPU starts the instruction the bytes at PC decode to, or counts. -/

namespace Sys2Proof.Machine

open Sys2Proof.Claim

/-! ### The fetch as reads, with the CPU set aside (R151) -/

theorem fetchOpcode_eq (s : State) :
    fetchOpcode s = { (memRead s.cpu.pc s).2 with cpu := (fetched (memRead s.cpu.pc s).1 1 s).cpu } := by
  simp [fetchOpcode, fetched, advancePc, forceUnused, State.setP, State.setPc, State.setOpcode, setFlag_unused]

/-- A fetched byte is a read at PC that sees nothing of the CPU but PC. -/
theorem fetchByte_withCpu (c : Cpu) (s : State) :
    fetchByte { s with cpu := c } =
      ((memRead c.pc s).1, { (memRead c.pc s).2 with cpu := { c with pc := c.pc + 1#16 } }) := by
  unfold fetchByte
  rw [memRead_withCpu]
  rfl

/-- The byte of an unread operand is what a read of it would return. -/
theorem fetchOperandByte_unread_withCpu {r : Row} (h : operandUnread r = true) (c : Cpu) (s : State) :
    fetchOperandByte r { s with cpu := c } = (peek c.pc s, { s with cpu := { c with pc := c.pc + 1#16 } }) := by
  unfold fetchOperandByte
  rw [if_pos h]
  rfl

theorem fetchOperandByte_read {r : Row} (h : operandUnread r = false) (s : State) :
    fetchOperandByte r s = fetchByte s := by
  unfold fetchOperandByte
  rw [if_neg (by simp [h])]

/-! ### The bytes a fetch reads (R151, R156) -/

/-- How many operand bytes the fetch of a row's instruction reads: all of them, but for that of an unofficial NOP in mode IMM. -/
def operandReads (r : Row) : Nat :=
  match r.build with
  | .implied _ => 0
  | .byte _ => if operandUnread r then 0 else 1
  | .offset _ => 1
  | .word _ => 2

/-- Read of the whole table: opcode byte and operand bytes read are the instruction's length, but for a NOP in mode IMM. -/
theorem opcodeTable_operandReads :
    ∀ r ∈ opcodeTable, operandReads r + 1 = if r.mnemonic = "NOP" ∧ r.mode = .imm then 1 else r.mode.length := by
  unfold opcodeTable
  simp only [List.forall_mem_append]
  decide

theorem rowOf_operandReads (op : Byte) :
    (if (rowOf op).mnemonic = "NOP" ∧ (rowOf op).mode = .imm then 1 else (rowOf op).mode.length) =
      operandReads (rowOf op) + 1 :=
  (opcodeTable_operandReads _ (List.getElem_mem _)).symm

/-- The operand bytes of a row's instruction fetched at PC, once the opcode byte is (R151). -/
def fetchOperands (row : Row) (s : State) : Instr × State :=
  match row.build with
  | .implied i => (i, s)
  | .byte f =>
    let b := fetchOperandByte row s
    (f b.1, b.2)
  | .offset f =>
    let b := fetchByte s
    (f b.1.toInt, b.2)
  | .word f =>
    let lo := fetchByte s
    let hi := fetchByte lo.2
    (f (wordOf lo.1 hi.1), hi.2)

theorem fetchInstr_eq (s : State) :
    fetchInstr s = fetchOperands (rowOf (fetchOpcode s).cpu.opcode) (fetchOpcode s) := rfl

/-- The row makes the instruction of operand bytes of which those it reads are read at PC in order; PC passes all of them. -/
theorem fetchOperands_reads (row : Row) (c : Cpu) (s : State) :
    let fetch := fetchOperands row { s with cpu := c }
    let reads := readBytes (operandReads row) c.pc s
    ∃ operands, row.build.Makes operands fetch.1 ∧ operands.take (operandReads row) = reads.1 ∧
      fetch.2 = { reads.2 with cpu := { c with pc := c.pc + BitVec.ofNat 16 operands.length } } := by
  unfold fetchOperands operandReads
  cases row.build with
  | implied i =>
    refine ⟨[], .implied i, rfl, ?_⟩
    simp [readBytes]
  | byte f =>
    refine ⟨[_], .byte f _, ?_⟩
    cases hunread : operandUnread row with
    | true =>
      rw [fetchOperandByte_unread_withCpu hunread]
      exact ⟨rfl, rfl⟩
    | false =>
      rw [fetchOperandByte_read hunread, fetchByte_withCpu]
      exact ⟨rfl, rfl⟩
  | offset f =>
    refine ⟨[_], .offset f _, ?_⟩
    rw [fetchByte_withCpu]
    exact ⟨rfl, rfl⟩
  | word f =>
    have hpc : c.pc + 1#16 + 1#16 = c.pc + 2#16 := by bv_omega
    refine ⟨[_, _], .word f _ _, ?_⟩
    simp only [fetchByte_withCpu, hpc]
    exact ⟨rfl, rfl⟩

/-- The spec lemma of the fetch from any address: the row of the byte at PC makes the instruction of operand bytes of which those
it reads are read in order after the opcode byte; the CPU passes the instruction. -/
theorem fetchInstr_reads (s : State) :
    let opcode := memRead s.cpu.pc s
    let row := rowOf opcode.1
    let reads := readBytes (operandReads row) (s.cpu.pc + 1#16) opcode.2
    ∃ operands, row.build.Makes operands (fetchInstr s).1 ∧ operands.take (operandReads row) = reads.1 ∧
      (fetchInstr s).2 = { reads.2 with cpu := (fetched opcode.1 (operands.length + 1) s).cpu } := by
  intro opcode row reads
  obtain ⟨operands, hmakes, hreads, hstate⟩ := fetchOperands_reads row (fetched opcode.1 1 s).cpu opcode.2
  have hpc : s.cpu.pc + 1#16 + BitVec.ofNat 16 operands.length = s.cpu.pc + BitVec.ofNat 16 (operands.length + 1) := by
    rw [BitVec.add_assoc, ← BitVec.ofNat_add, Nat.add_comm 1]
  rw [fetchInstr_eq, fetchOpcode_eq]
  refine ⟨operands, hmakes, hreads, hstate.trans ?_⟩
  simp only [fetched, hpc]
  rfl

/-- Settles O31: what the row makes of its operand bytes is encoded by the opcode byte and these bytes. -/
theorem fetchReadsInstructionBytes : Obligations.FetchReadsInstructionBytes := by
  intro s
  obtain ⟨operands, hmakes, hreads, hstate⟩ := fetchInstr_reads s
  obtain ⟨hwf, hmode, -, hencode⟩ := spec_of_makes hmakes
  obtain ⟨hopcode, hbytes⟩ := List.cons.inj hencode
  have hlength : (fetchInstr s).1.length = operands.length + 1 := by rw [← length_encode, hencode]; rfl
  intro f n r
  have hn : n = operandReads (rowOf (memRead s.cpu.pc s).1) + 1 := by
    rw [← rowOf_operandReads, ← hmode, ← hopcode]
    rfl
  refine ⟨hwf, hopcode, ?_, ?_, ?_⟩
  · simp only [r, hn, f, hencode, List.take_succ_cons, hreads]
    rfl
  · simp only [f, hstate, hopcode, hlength]
  · simp only [f, r, hn, hstate]
    exact ⟨rfl, rfl, rfl, rfl⟩

/-! ### The tick of a clocked CPU (R150, R451) -/

/-- Such a tick is the PPU's step, one CPU cycle, then the end of the tick. -/
theorem step_of_clocked {s : State} (h : cpuIsClocked s) :
    step s = Result.andThen (cpuClock (ppuClock s)) endTick := by
  obtain ⟨hcart, hslot, hdma⟩ := h
  rw [step_eq (Option.isSome_iff_ne_none.mp hcart), clockCpuOrDma_cpu] <;> rwa [ppuClock_bus]

theorem Result.andThen_andThen (r : Result) (f g : State → State) :
    (r.andThen f).andThen g = r.andThen (fun s => g (f s)) := by
  cases r <;> rfl

theorem cpuClock_start {s : State} (h : s.cpu.cycles = 0) : cpuClock s = startInstr s := if_pos h

theorem cpuClock_count {s : State} (h : s.cpu.cycles ≠ 0) : cpuClock s = .next (countDown s) := if_neg h

/-- Settles O32: the CPU's part of the tick is the count, or nothing, and no NMI ends it. -/
theorem ticksBetweenInstructions : Obligations.TicksBetweenInstructions := by
  intro s hcart hdma hnmi
  constructor
  · intro hslot hcycles
    rw [step_of_clocked ⟨hcart, hslot, hdma⟩, cpuClock_count (by rwa [ppuClock_cpu])]
    have hquiet : (countDown (ppuClock s)).ppu.nmi = false := hnmi
    refine congrArg Host.Outcome.next ((endTick_quiet hquiet).trans ?_)
    simp [countDown, State.setCycles]
  · intro hidle
    rw [step_eq (Option.isSome_iff_ne_none.mp hcart),
      clockCpuOrDma_idle (by rwa [ppuClock_bus]) (.inl (by rwa [ppuClock_bus]))]
    refine congrArg Host.Outcome.next ((endTick_quiet hnmi).trans ?_)
    simp

/-! ### The instruction a tick starts (R150) -/

/-- Decoding sees no byte past the instruction. -/
theorem decode_of_take_eq {bytes bytes' rest : List Byte} {i : Instr} (h : decode bytes = .ok (i, rest))
    (hbytes : bytes'.take i.length = bytes.take i.length) : decode bytes' = .ok (i, bytes'.drop i.length) := by
  obtain ⟨hwf, rfl⟩ := encodeOfDecode _ _ _ h
  rw [List.take_left' (length_encode i)] at hbytes
  exact decode_of_encode_eq hwf (hbytes ▸ List.take_append_drop _ _)

/-- Bytes at an address that two states agree on. -/
theorem take_peek_congr {s t : State} {a : Word} {n : Nat}
    (h : ∀ k, k < n → peek (a + BitVec.ofNat 16 k) t = peek (a + BitVec.ofNat 16 k) s) :
    [peek a t, peek (a + 1#16) t, peek (a + 2#16) t].take n =
      [peek a s, peek (a + 1#16) s, peek (a + 2#16) s].take n := by
  have hmap : ∀ u, [peek a u, peek (a + 1#16) u, peek (a + 2#16) u] =
      (List.range 3).map (fun k => peek (a + BitVec.ofNat 16 k) u) := fun u => by simp [List.range_succ]
  rw [hmap, hmap, ← List.map_take, ← List.map_take, List.take_range]
  exact List.map_congr_left fun k hk => h k (lt_min_iff.mp (List.mem_range.mp hk)).1

/-- Settles O30: the PPU's step changes no byte of memory, so the fetch after it finds `i` too. -/
theorem stepRunsDecodedInstruction : Obligations.StepRunsDecodedInstruction := by
  intro i s rest hclocked hcycles hmemory hdecode
  have hpeek : ∀ k, k < i.length →
      peek (s.cpu.pc + BitVec.ofNat 16 k) (ppuClock s) = peek (s.cpu.pc + BitVec.ofNat 16 k) s := fun k hk =>
    peek_memory_congr (hmemory k hk) (by rw [ppuClock_bus]) (ppuClock_cart s)
  have hfetch : fetchInstr (ppuClock s) = (i, fetched i.opcode i.length (ppuClock s)) := by
    have hdecode' := decode_of_take_eq hdecode (take_peek_congr hpeek)
    rw [← ppuClock_cpu s] at hmemory hdecode'
    exact fetchInstr_memory hmemory hdecode'
  rw [step_of_clocked hclocked, cpuClock_start (by rwa [ppuClock_cpu]), startInstr, hfetch]
  exact Result.andThen_andThen _ countDown endTick

end Sys2Proof.Machine
end

section
/-! The forms of the instructions that have a table of forms, and the law of an instruction that acquires its operand once: what
it leaves of the devices and of memory is the same for every operation (R152, R153). -/

namespace Sys2Proof.Machine

open Sys2Proof.Claim

/-- The forms of a routine, where the statements list them by operand. -/
def Routine.formOf : Routine → Operand → Option (Instr × Byte × Nat)
  | .adc => adcForm
  | .sbc => sbcForm
  | .and => andForm
  | .ora => oraForm
  | .eor => eorForm
  | .bit => bitForm
  | .cmp => cmpForm
  | .cpx => cpxForm
  | .cpy => cpyForm
  | .inc => incForm
  | .dec => decForm
  | .asl => aslForm
  | .lsr => lsrForm
  | .rol => rolForm
  | .ror => rorForm
  | .lda => ldaForm
  | .ldx => ldxForm
  | .ldy => ldyForm
  | .sta => staForm
  | .stx => stxForm
  | .sty => styForm
  | _ => fun _ => none

/-- A form has its opcode, an operand to acquire or store to, and runs its routine in that mode with its base cycles. -/
theorem formOf_runs {r : Routine} {o : Operand} {i : Instr} {op : Byte} {n : Nat} (h : r.formOf o = some (i, op, n)) :
    i.opcode = op ∧ isData o = true ∧ ∀ s, exec i s = .next (runInstr n o r.operation s) := by
  cases r with
  | adc | sbc | and | ora | eor | bit | cmp | cpx | cpy | inc | dec | asl | lsr | rol | ror | lda | ldx | ldy | sta
  | stx | sty =>
    cases o <;> cases h <;> exact ⟨rfl, rfl, fun _ => rfl⟩
  | _ => cases h

/-- The CPU an instruction ends with whose routine left `c`: the extra cycle and U (R150, R152). -/
def ended (extra : Bool) (c : Cpu) : Cpu := { c with cycles := c.cycles + bit extra, p := setFlag .u true c.p }

/-- An instruction that acquires its operand once and then changes the CPU alone, by `f`. -/
theorem exec_read {r : Routine} {o : Operand} {i : Instr} {op : Byte} {n : Nat} (h : r.formOf o = some (i, op, n))
    {request : Bool} {f : Byte → Cpu → Cpu}
    (hop : ∀ s, r.operation o s =
      (request, { (fetchOperand o s).2 with cpu := f (fetchOperand o s).1 (fetchOperand o s).2.cpu })) (s : State) :
    i.opcode = op ∧ ∃ t, exec i s = .next t ∧
      t.cpu = ended (crossesPage o s && request) (f (operandRead o s).1 (afterRead o n s)) ∧
      SameDevices t (operandRead o s).2 ∧ MemoryKept t s := by
  obtain ⟨hcode, hdata, hexec⟩ := formOf_runs h
  have hrun := runInstr_read (base := n) (f := fun m u => { u with cpu := f m u.cpu }) hdata hop s
  have hsame : SameDevices (runInstr n o r.operation s) (operandRead o s).2 := by
    rw [hrun]
    exact ⟨rfl, rfl, rfl, rfl⟩
  exact ⟨hcode, _, hexec s, congrArg State.cpu hrun, hsame, memoryKept_operandRead hsame⟩

end Sys2Proof.Machine
end

section
/-! O5 to O11: arithmetic, logic, comparison, increment and decrement (spec/41_arithmetic_logic.md). Per computation of the status
byte one lemma says which flags an instruction that ends with it leaves; the rest of each law is `exec_read`. -/

namespace Sys2Proof.Machine

open Sys2Proof.Claim

/-! ### The flags at the end of an instruction -/

section

variable {t s : State} {a m : Byte}

/-- The flags of ADC (R201). -/
theorem flags_of_addFlags (h : t.cpu.p = setFlag .u true (addFlags a m s.cpu.p)) :
    flag .c t = decide (0xFF < addSum a m s.cpu.p) ∧
      flag .v t = (decide (sign a = sign m) && decide (sign (addResult a m s.cpu.p) ≠ sign a)) ∧
      ZeroNegativeOf (addResult a m s.cpu.p) t ∧ OnlyFlags [.c, .z, .v, .n] t s := by
  have hflag := fun f => flag_forced f _ t h
  simp only [getFlag_addFlags] at hflag
  refine ⟨hflag .c, hflag .v, ⟨hflag .z, hflag .n⟩, hflag .u, fun f hu hf => (hflag f).trans ?_⟩
  simp_all [flag]

/-- The flags of SBC (R202). -/
theorem flags_of_subFlags (h : t.cpu.p = setFlag .u true (subFlags a m s.cpu.p)) :
    let r := addResult a (subOperand m) s.cpu.p
    flag .c t = decide (0xFF < addSum a (subOperand m) s.cpu.p) ∧
      flag .v t = (decide (sign r ≠ sign a) && decide (sign r ≠ sign (subOperand m))) ∧
      ZeroNegativeOf r t ∧ OnlyFlags [.c, .z, .v, .n] t s := by
  have hflag := fun f => flag_forced f _ t h
  simp only [getFlag_subFlags] at hflag
  refine ⟨hflag .c, hflag .v, ⟨hflag .z, hflag .n⟩, hflag .u, fun f hu hf => (hflag f).trans ?_⟩
  simp_all [flag]

/-- The flags of a comparison (R207 to R209). -/
theorem flags_of_compareFlags (h : t.cpu.p = setFlag .u true (compareFlags a m s.cpu.p)) :
    flag .c t = decide (m.toNat ≤ a.toNat) ∧ ZeroNegativeOf (a - m) t ∧ OnlyFlags [.c, .z, .n] t s := by
  have hflag := fun f => flag_forced f _ t h
  simp only [getFlag_compareFlags] at hflag
  refine ⟨hflag .c, ⟨hflag .z, hflag .n⟩, hflag .u, fun f hu hf => (hflag f).trans ?_⟩
  simp_all [flag]

/-- The flags of BIT (R206). -/
theorem flags_of_bitFlags (h : t.cpu.p = setFlag .u true (bitFlags a m s.cpu.p)) :
    flag .z t = decide ((a &&& m).toNat = 0) ∧ flag .n t = sign m ∧ flag .v t = decide (64 ≤ m.toNat % 128) ∧
      OnlyFlags [.z, .n, .v] t s := by
  have hflag := fun f => flag_forced f _ t h
  simp only [getFlag_bitFlags, getLsbD_six] at hflag
  refine ⟨hflag .z, hflag .n, hflag .v, hflag .u, fun f hu hf => (hflag f).trans ?_⟩
  simp_all [flag]

end

/-! ### ADC and SBC -/

theorem addSum_eq (a m p : Byte) : addSum a m p = a.toNat + m.toNat + bit (getFlag .c p) := by
  rw [addSum, carryIn_eq]

/-- Settles O5: what ADC does to A and P, in the numbers of the statement. -/
theorem addWithCarry : Obligations.AddWithCarry := by
  intro o i op n s h m sum r
  obtain ⟨hcode, t, hexec, hcpu, hsame, hkept⟩ := exec_read (r := .adc) h
    (f := fun m c => { c with a := addResult c.a m c.p, p := addFlags c.a m c.p }) (fun _ => rfl) s
  obtain ⟨hc, hv, hzn, honly⟩ := flags_of_addFlags (congrArg Cpu.p hcpu)
  have hsum : addSum s.cpu.a m s.cpu.p = sum := addSum_eq _ _ _
  have hr : addResult s.cpu.a m s.cpu.p = r := addResult_eq _ _ _
  rw [← hsum, ← hr]
  refine ⟨hcode, t, hexec, ?_, hc, hv, hzn, honly, hsame, hkept⟩
  rw [hcpu, Bool.and_true]
  rfl

/-- Settles O6: as for ADC; that the carry is "no borrow" is `subCarry`. -/
theorem subtractWithBorrow : Obligations.SubtractWithBorrow := by
  intro o i op n s h m w sum r
  obtain ⟨hcode, t, hexec, hcpu, hsame, hkept⟩ := exec_read (r := .sbc) h
    (f := fun m c => { c with a := addResult c.a (subOperand m) c.p, p := subFlags c.a m c.p }) (fun _ => rfl) s
  obtain ⟨hc, hv, hzn, honly⟩ := flags_of_subFlags (congrArg Cpu.p hcpu)
  have hsum : addSum s.cpu.a w s.cpu.p = sum := addSum_eq _ _ _
  have hr : addResult s.cpu.a w s.cpu.p = r := addResult_eq _ _ _
  rw [← hsum, ← hr]
  refine ⟨hcode, t, hexec, ?_, hc, hc.trans (subCarry _ m _), hv, hzn, honly, hsame, hkept⟩
  rw [hcpu, Bool.and_true]
  rfl

/-! ### AND, ORA, EOR, BIT -/

/-- The law of the routine AND, ORA and EOR share (R203 to R205). -/
theorem logicLaw {r : Routine} {g : Byte → Byte → Byte} (hr : r.operation = logicOnA g) : LogicLaw r.formOf g := by
  intro o i op n s h v
  obtain ⟨hcode, t, hexec, hcpu, hsame, hkept⟩ := exec_read h
    (f := fun m c => { c with a := g c.a m, p := setZN (g c.a m) c.p }) (fun _ => by rw [hr]; rfl) s
  obtain ⟨hzn, honly⟩ := zeroNegative_of (v := v) (s := s) (congrArg Cpu.p hcpu)
  refine ⟨hcode, t, hexec, ?_, hzn, honly, hsame, hkept⟩
  rw [hcpu, Bool.and_true]
  rfl

/-- Settles O7: the three are one operation routine. -/
theorem logicOnAccumulator : Obligations.LogicOnAccumulator :=
  ⟨logicLaw (r := .and) rfl, logicLaw (r := .ora) rfl, logicLaw (r := .eor) rfl⟩

/-- Settles O8: BIT changes P alone. -/
theorem bitTest : Obligations.BitTest := by
  intro o i op n s h m
  obtain ⟨hcode, t, hexec, hcpu, hsame, hkept⟩ := exec_read (r := .bit) h
    (f := fun m c => { c with p := bitFlags c.a m c.p }) (fun _ => rfl) s
  obtain ⟨hz, hn, hv, honly⟩ := flags_of_bitFlags (congrArg Cpu.p hcpu)
  refine ⟨hcode, t, hexec, ?_, hz, hn, hv, honly, hsame, hkept⟩
  rw [hcpu, Bool.and_false]
  rfl

/-! ### CMP, CPX, CPY -/

/-- A comparison that requests the extra cycle, or none of whose forms tests a page. -/
theorem compareLaw {r : Routine} {reg : Cpu → Byte} {request : Bool} (hr : r.operation = compareWith reg request)
    (hreg : ∀ (o : Operand) (n : Nat) (s : State), reg (afterRead o n s) = reg s.cpu)
    (hpage : request = true ∨ ∀ o s, r.formOf o ≠ none → crossesPage o s = false) : CompareLaw r.formOf reg := by
  intro o i op n s h m
  obtain ⟨hcode, t, hexec, hcpu, hsame, hkept⟩ := exec_read h
    (f := fun m c => { c with p := compareFlags (reg c) m c.p }) (fun _ => by rw [hr]; rfl) s
  have hextra : (crossesPage o s && request) = crossesPage o s := by
    rcases hpage with rfl | hnone
    · exact Bool.and_true _
    · rw [hnone o s (h ▸ Option.some_ne_none _), Bool.false_and]
  rw [hreg, hextra] at hcpu
  obtain ⟨hc, hzn, honly⟩ := flags_of_compareFlags (s := s) (congrArg Cpu.p hcpu)
  refine ⟨hcode, t, hexec, ?_, hc, hzn, honly, hsame, hkept⟩
  rw [hcpu]
  rfl

/-- CPX and CPY have the modes IMM, ZP0 and ABS (R208, R209). -/
theorem crossesPage_of_cpx_or_cpy {r : Routine} (hr : r = .cpx ∨ r = .cpy) (o : Operand) (s : State)
    (h : r.formOf o ≠ none) : crossesPage o s = false := by
  cases o with
  | imm | zp0 | abs => rfl
  | _ => rcases hr with rfl | rfl <;> exact absurd rfl h

/-- Settles O9: the three are one operation routine. -/
theorem compareRegisters : Obligations.CompareRegisters :=
  ⟨compareLaw (r := .cmp) rfl (fun _ _ _ => rfl) (.inl rfl),
    compareLaw (r := .cpx) rfl (fun _ _ _ => rfl) (.inr (crossesPage_of_cpx_or_cpy (.inl rfl))),
    compareLaw (r := .cpy) rfl (fun _ _ _ => rfl) (.inr (crossesPage_of_cpx_or_cpy (.inr rfl)))⟩

/-! ### Increment and decrement -/

/-- The law of the routine INC and DEC share (R210, R211): the write sees nothing of the CPU but the latched address. -/
theorem modifyLaw {r : Routine} {g : Byte → Byte} (hr : r.operation = modifyMemory g) : ModifyLaw r.formOf g := by
  intro o i op n s h v
  obtain ⟨hcode, hdata, hexec⟩ := formOf_runs h
  have hrun := runInstr_read (base := n) (f := fun m u => (memWrite u.cpu.addrAbs (g m) u).setP (setZN (g m) u.cpu.p))
    hdata (op := modifyMemory g) (fun _ => by rw [modifyMemory, memWrite_cpu]) s
  rw [hr] at hexec
  simp only [memWrite_withCpu, Bool.and_false] at hrun
  have hsame : SameDevices (runInstr n o (modifyMemory g) s) (memWrite (effectiveAddress o s) v (operandRead o s).2) := by
    rw [hrun]
    exact ⟨rfl, rfl, rfl, rfl⟩
  have hcpu := congrArg State.cpu hrun
  obtain ⟨hzn, honly⟩ := zeroNegative_of (v := v) (s := s) (congrArg Cpu.p hcpu)
  refine ⟨hcode, _, hexec s, ?_, hzn, honly, hsame, storedByte_operandRead hsame⟩
  rw [hcpu]
  rfl

/-- Settles O10: the two are one operation routine. -/
theorem incrementDecrementMemory : Obligations.IncrementDecrementMemory :=
  ⟨modifyLaw (r := .inc) rfl, modifyLaw (r := .dec) rfl⟩

/-- An instruction that leaves the CPU `c` with Z and N of `v`, and everything outside the CPU as it was. -/
theorem exec_zeroNegative {i : Instr} {s : State} {c : Cpu} {v : Byte}
    (h : exec i s = .next { s with cpu := { c with p := setFlag .u true (setZN v s.cpu.p) } }) :
    ∃ t, exec i s = .next t ∧ t.cpu = { c with p := t.cpu.p } ∧
      ZeroNegativeOf v t ∧ OnlyFlags [.z, .n] t s ∧ NothingStored t s := by
  obtain ⟨hzn, honly⟩ := zeroNegative_of (v := v) (s := s)
    (t := { s with cpu := { c with p := setFlag .u true (setZN v s.cpu.p) } }) rfl
  exact ⟨_, h, rfl, hzn, honly, nothingStored_of ⟨rfl, rfl, rfl, rfl⟩⟩

/-- Settles O11: mode IMP sets the latches alone (R155), so each instruction computes to its register, Z, N and U. -/
theorem incrementDecrementIndex : Obligations.IncrementDecrementIndex := fun s =>
  ⟨⟨rfl, exec_zeroNegative (c := { afterRead .imp 2 s with x := s.cpu.x + 1#8 }) rfl⟩,
    ⟨rfl, exec_zeroNegative (c := { afterRead .imp 2 s with y := s.cpu.y + 1#8 }) rfl⟩,
    ⟨rfl, exec_zeroNegative (c := { afterRead .imp 2 s with x := s.cpu.x - 1#8 }) rfl⟩,
    ⟨rfl, exec_zeroNegative (c := { afterRead .imp 2 s with y := s.cpu.y - 1#8 }) rfl⟩⟩

end Sys2Proof.Machine
end

section
/-! O12: shift and rotate (spec/42_shift_rotate.md). `shifted` is the state a shift or rotate ends in; the law's two clauses are the
two places its result goes. -/

namespace Sys2Proof.Machine

open Sys2Proof.Claim

/-- The flags of a shift or rotate (R230). -/
theorem flags_of_shiftFlags {t s : State} {out : Bool} {v : Byte}
    (h : t.cpu.p = setFlag .u true (shiftFlags out v s.cpu.p)) :
    flag .c t = out ∧ ZeroNegativeOf v t ∧ OnlyFlags [.c, .z, .n] t s := by
  have hflag := fun f => flag_forced f _ t h
  simp only [getFlag_shiftFlags] at hflag
  refine ⟨hflag .c, ⟨hflag .z, hflag .n⟩, hflag .u, fun f hu hf => (hflag f).trans ?_⟩
  simp_all [flag]

/-- The state after a shift or rotate of `n` cycles with result `v` and carry `out`: one operand read, the flags, then the store
(R230). -/
def shifted (o : Operand) (n : Nat) (out : Bool) (v : Byte) (s : State) : State :=
  storeResult o v
    { (operandRead o s).2 with
      cpu := { afterRead o n s with p := setFlag .u true (shiftFlags out v s.cpu.p) } }

/-- The accumulator form writes A and stores nothing. -/
theorem shifted_imp (n : Nat) (out : Bool) (v : Byte) (s : State) :
    shifted .imp n out v s =
      { s with cpu := { afterRead .imp n s with a := v, p := setFlag .u true (shiftFlags out v s.cpu.p) } } := rfl

/-- A memory form writes where it read. -/
theorem shifted_memory {o : Operand} (ho : o ≠ .imp) (n : Nat) (out : Bool) (v : Byte) (s : State) :
    shifted o n out v s =
      { memWrite (effectiveAddress o s) v (operandRead o s).2 with
        cpu := { afterRead o n s with p := setFlag .u true (shiftFlags out v s.cpu.p) } } := by
  rw [shifted, storeResult_memory ho, memWrite_withCpu]
  rfl

theorem shifted_p (o : Operand) (n : Nat) (out : Bool) (v : Byte) (s : State) :
    (shifted o n out v s).cpu.p = setFlag .u true (shiftFlags out v s.cpu.p) := by
  by_cases ho : o = .imp
  · rw [ho, shifted_imp]
  · rw [shifted_memory ho]

/-- The routine the family shares as a whole instruction; it requests no extra cycle (R230). -/
theorem runInstr_shiftWith {o : Operand} (h : isData o = true) (n : Nat) (result : Byte → Byte → Byte) (out : Byte → Bool)
    (s : State) :
    runInstr n o (shiftWith result out) s =
      shifted o n (out (operandRead o s).1) (result (operandRead o s).1 s.cpu.p) s := by
  rw [runInstr_read (req := false) h (f := fun m u =>
    storeResult o (result m u.cpu.p) (u.setP (shiftFlags (out m) (result m u.cpu.p) u.cpu.p))) (fun _ => rfl),
    Bool.and_false]
  by_cases ho : o = .imp
  · subst ho
    rfl
  · simp only [shifted_memory ho, storeResult_memory ho, State.setP, memWrite_withCpu]
    rfl

/-- The law of ASL, LSR, ROL and ROR, whose result and carry out are in numbers those of the statement. -/
theorem shiftLaw {r : Routine} {result : Byte → Byte → Byte} {out : Byte → Bool} {resultNat : Nat → Nat → Nat}
    {outNat : Nat → Bool} (hresult : ∀ m p, result m p = BitVec.ofNat 8 (resultNat m.toNat (bit (getFlag .c p))))
    (hout : ∀ m, out m = outNat m.toNat) (hr : r.operation = shiftWith result out) :
    ShiftLaw r.formOf resultNat outNat := by
  intro o i op n s h m v
  obtain ⟨hcode, hdata, hexec⟩ := formOf_runs h
  have hrun : runInstr n o r.operation s = shifted o n (outNat m.toNat) v s := by
    rw [hr, runInstr_shiftWith hdata, hresult, hout]
    rfl
  obtain ⟨hc, hzn, honly⟩ := flags_of_shiftFlags (shifted_p o n (outNat m.toNat) v s)
  refine ⟨hcode, _, (hexec s).trans (congrArg _ hrun), hc, hzn, honly, fun ho => ?_, fun ho => ?_⟩
  · subst ho
    exact ⟨rfl, nothingStored_of ⟨rfl, rfl, rfl, rfl⟩⟩
  · have hsame : SameDevices (shifted o n (outNat m.toNat) v s) (memWrite (effectiveAddress o s) v (operandRead o s).2) := by
      rw [shifted_memory ho]
      exact ⟨rfl, rfl, rfl, rfl⟩
    refine ⟨?_, hsame, storedByte_operandRead hsame⟩
    rw [shifted_memory ho]

/-- Settles O12: the four are one operation routine. -/
theorem shiftAndRotate : Obligations.ShiftAndRotate :=
  ⟨shiftLaw (r := .asl) (fun m _ => aslResult_eq m) getLsbD_seven rfl,
    shiftLaw (r := .lsr) (fun m _ => lsrResult_eq m) getLsbD_zero_eq rfl,
    shiftLaw (r := .rol) rolResult_eq getLsbD_seven rfl,
    shiftLaw (r := .ror) rorResult_eq getLsbD_zero_eq rfl⟩

end Sys2Proof.Machine
end

section
/-! O13 to O18: branches, jumps, subroutine calls and returns, BRK and RTI (spec/43_control_transfer.md); and O48, that RTI undoes an
interrupt entry. Each instruction is first one equation over its state; the laws then read off it what changed. -/

namespace Sys2Proof.Machine

open Sys2Proof.Claim

/-- A change of the CPU stores nothing. -/
theorem nothingStored_withCpu (c : Cpu) (s : State) : NothingStored { s with cpu := c } s :=
  nothingStored_of ⟨rfl, rfl, rfl, rfl⟩

/-! ### Branches -/

/-- A branch has its opcode and runs the one routine of R240. -/
theorem branch_runs {r : Int} {i : Instr} {op : Byte} {f : Flag} {value : Bool} (h : (i, op, f, value) ∈ branches r) :
    i.opcode = op ∧ ∀ s, exec i s = .next (runInstr 2 (.rel r) (branchOn f value) s) := by
  simp only [branches, List.mem_cons, Prod.mk.injEq, List.not_mem_nil, or_false] at h
  rcases h with h | h | h | h | h | h | h | h <;> obtain ⟨rfl, rfl, rfl, rfl⟩ := h <;> exact ⟨rfl, fun _ => rfl⟩

/-- Settles O13: the eight are one operation routine, and `runInstr_branch` is its equation. -/
theorem branchOnFlag : Obligations.BranchOnFlag := by
  intro r i op f value s h target taken
  obtain ⟨hcode, hexec⟩ := branch_runs h
  have hrun := (hexec s).trans (congrArg Host.Outcome.next (runInstr_branch f value r s))
  exact ⟨hcode, _, hrun, rfl, onlyFlags_none rfl, nothingStored_withCpu _ s⟩

/-! ### Jumps -/

/-- JMP ABS: PC from the operand (R250). -/
theorem exec_jmpAbs (a : Word) (s : State) :
    exec (.jmpAbs a) s =
      .next { s with cpu := { s.cpu with pc := a, cycles := 3, addrAbs := a, p := setFlag .u true s.cpu.p } } := rfl

/-- The CPU is not seen by the read of a word. -/
theorem memReadWord_withCpu (a b : Word) (c : Cpu) (s : State) :
    memReadWord a b { s with cpu := c } = ((memReadWord a b s).1, { (memReadWord a b s).2 with cpu := c }) := by
  simp only [memReadWord, memRead_withCpu]

/-- JMP IND: the two pointer reads with their effects, then PC from the word read (R165, R250). -/
theorem exec_jmpInd (a : Word) (s : State) :
    exec (.jmpInd a) s =
      let r := memReadWord a (indirectHighAddress a) s
      .next { r.2 with
        cpu := { s.cpu with pc := r.1, cycles := 5, addrAbs := r.1, p := setFlag .u true s.cpu.p } } := by
  show Host.Outcome.next (runInstr 5 (.ind a) opJmp s) = _
  rw [runInstr_eq]
  simp only [addressing, State.setCycles, memReadWord_withCpu]
  rfl

/-- Settles O14: JMP ABS reads nothing; JMP IND has its pointer's high byte where `indirectHighAddress_eq` says. -/
theorem jumpTargets : Obligations.JumpTargets := by
  intro a s
  refine ⟨⟨rfl, _, exec_jmpAbs a s, rfl, onlyFlags_none rfl, nothingStored_withCpu _ s⟩, ?_⟩
  rw [← indirectHighAddress_eq]
  obtain ⟨-, -, -, hkept⟩ := memReadWord_frame a (indirectHighAddress a) s
  exact ⟨rfl, _, exec_jmpInd a s, rfl, onlyFlags_none rfl, ⟨rfl, rfl, rfl, rfl⟩, hkept⟩

/-! ### Calls and returns -/

/-- JSR: the address before PC on the stack, PC from the operand (R252). -/
theorem exec_jsr (a : Word) (s : State) :
    exec (.jsr a) s =
      .next { s with
        cpu := { s.cpu with pc := a, s := s.cpu.s - 2#8, cycles := 6, addrAbs := a, p := setFlag .u true s.cpu.p }
        bus := { s.bus with ram := wordOnStack s.bus.ram s.cpu.s (s.cpu.pc - 1#16) } } := by
  show Host.Outcome.next (runInstr 6 (.abs a) opJsr s) = _
  rw [runInstr_eq]
  simp only [opJsr, pushWord_eq]
  rfl

/-- Settles O15: the stack bytes show the word pushed. -/
theorem callPushesReturnAddress : Obligations.CallPushesReturnAddress := by
  intro a s
  refine ⟨rfl, _, exec_jsr a s, rfl, ?_⟩
  rw [and_left_comm]
  exact ⟨onlyFlags_none rfl, wordOnStack_seen rfl rfl rfl rfl rfl⟩

/-- RTS: PC from the stack plus one (R254). -/
theorem exec_rts (s : State) :
    exec .rts s =
      .next { s with
        cpu :=
          { afterRead .imp 6 s with
            pc := stackWord (s.cpu.s + 1#8) s + 1#16, s := s.cpu.s + 2#8, p := setFlag .u true s.cpu.p } } := by
  show Host.Outcome.next (runInstr 6 .imp opRts s) = _
  rw [runInstr_eq]
  simp only [opRts, pullWord_eq]
  rfl

/-- Settles O16. -/
theorem returnPullsAndIncrements : Obligations.ReturnPullsAndIncrements := fun s =>
  ⟨rfl, _, exec_rts s, rfl, onlyFlags_none rfl, nothingStored_withCpu _ s⟩

/-! ### BRK and RTI -/

/-- BRK: the entry of R256 in the state mode IMP leaves. -/
theorem exec_brk (s : State) :
    exec .brk s =
      .next { s with
        cpu :=
          { afterRead .imp 7 s with
            pc := vectorWord 0xFFFE#16 s, s := s.cpu.s - 3#8, p := setFlag .u true (setFlag .i true s.cpu.p) }
        bus := { s.bus with ram := entryOnStack s.bus.ram s.cpu.s (s.cpu.pc + 1#16) (s.cpu.p ||| 0x30#8) } } := by
  show Host.Outcome.next (runInstr 7 .imp opBrk s) = _
  rw [runInstr_eq, ← pushedStatus_eq]
  simp only [opBrk, softwareInterrupt_spec]
  rfl

/-- Settles O17: the stack bytes show the word and the status pushed; of the live flags only I was written. -/
theorem breakEntersIrqVector : Obligations.BreakEntersIrqVector := by
  intro s
  have hi : getFlag .i (setFlag .u true (setFlag .i true s.cpu.p)) = true := by simp
  have hother : ∀ f, f ∉ [.i] → getFlag f (setFlag .i true s.cpu.p) = getFlag f s.cpu.p := fun f hf => by
    rw [getFlag_setFlag, if_neg (List.ne_of_not_mem_cons hf)]
  exact ⟨rfl, _, exec_brk s, rfl, hi, onlyFlags_of rfl hother, entryOnStack_seen rfl rfl rfl rfl rfl⟩

/-- The status RTI leaves of the byte it pulls, with U forced at the end (R150, R259). -/
theorem returnStatus_eq (p : Byte) : setFlag .u true (p &&& ~~~0x10#8 &&& ~~~0x20#8) = (p &&& 0xCF#8) ||| 0x20#8 := by
  rw [setFlag_unused, BitVec.and_assoc]
  rfl

/-- RTI: the return of R259 in the state mode IMP leaves. -/
theorem exec_rti (s : State) :
    exec .rti s =
      .next { s with
        cpu :=
          { afterRead .imp 6 s with
            p := (peek (slot (s.cpu.s + 1#8)) s &&& 0xCF#8) ||| 0x20#8
            pc := stackWord (s.cpu.s + 2#8) s
            s := s.cpu.s + 3#8 } } := by
  show Host.Outcome.next (runInstr 6 .imp opRti s) = _
  rw [runInstr_eq, ← returnStatus_eq]
  simp only [opRti, returnFromInterrupt_spec]
  rfl

/-! ### RTI after an interrupt entry -/

/-- RTI keeps the status an interrupt entry pushed, in which B is clear and U set already. -/
theorem returnStatus_entryStatus (p : Byte) :
    (((p &&& 0xEF#8) ||| 0x24#8) &&& 0xCF#8) ||| 0x20#8 = (p &&& 0xEF#8) ||| 0x24#8 := by
  rw [← returnStatus_eq, ← entryStatus_eq]
  change setFlag .u true (setFlag .u false (setFlag .b false _)) = _
  apply status_ext
  intro f
  simp only [getFlag_setFlag]
  cases f <;> rfl

/-- RTI from the stack an interrupt entry left goes back to where the entry came from. -/
theorem rti_of_entered {vec : Word} {n : Nat} {h s e : State} (hentered : Entered vec n h s)
    (hs : e.cpu.s = h.cpu.s) (hram : e.bus.ram = h.bus.ram) :
    ∃ t, exec .rti e = .next t ∧ t.cpu.pc = s.cpu.pc ∧ t.cpu.s = s.cpu.s ∧
      t.cpu.p = (s.cpu.p &&& 0xEF#8) ||| 0x24#8 := by
  obtain ⟨hcpu, hword, hstatus, -⟩ := hentered
  rw [hcpu] at hs hstatus
  dsimp only at hs hstatus
  have hslot : ∀ x, peek (slot x) e = peek (slot x) h := fun x => by rw [peek_slot, peek_slot, hram]
  have hstatusSlot : e.cpu.s + 1#8 = s.cpu.s - 2#8 := by bv_omega
  have hlowSlot : e.cpu.s + 2#8 = s.cpu.s - 1#8 := by bv_omega
  have hhighSlot : s.cpu.s - 1#8 + 1#8 = s.cpu.s := by bv_omega
  have htop : e.cpu.s + 3#8 = s.cpu.s := by bv_omega
  have hpc : stackWord (e.cpu.s + 2#8) e = s.cpu.pc := by
    rw [hlowSlot, stackWord, hhighSlot, hslot, hslot, hword]
  have hp : (peek (slot (e.cpu.s + 1#8)) e &&& 0xCF#8) ||| 0x20#8 = (s.cpu.p &&& 0xEF#8) ||| 0x24#8 := by
    rw [hstatusSlot, hslot, hstatus, returnStatus_entryStatus]
  exact ⟨_, exec_rti e, hpc, htop, hp⟩

/-- Settles O48: NMI and an accepted IRQ are one entry, through two vectors. -/
theorem rtiUndoesInterruptEntry : Obligations.RtiUndoesInterruptEntry := by
  intro s e h
  rcases h with ⟨hs, hram⟩ | ⟨hclear, hs, hram⟩
  · exact rti_of_entered (entered_interruptEntry (vec := nmiVector) 8 s (by decide) (by decide)) hs hram
  · have hirq : irq s = interruptEntry irqVector 7 s := if_neg (ne_true_of_eq_false hclear)
    rw [hirq] at hs hram
    exact rti_of_entered (entered_interruptEntry (vec := irqVector) 7 s (by decide) (by decide)) hs hram

end Sys2Proof.Machine

namespace Sys2Proof

open Sys2Proof.Machine

/-- Settles O18. It stands outside `Sys2Proof.Machine`, where its name is the operation's. -/
theorem returnFromInterrupt : Obligations.ReturnFromInterrupt := fun s =>
  ⟨rfl, _, exec_rti s, rfl, nothingStored_withCpu _ s⟩

end Sys2Proof
end

section
/-! O19 to O23: loads, stores, transfers and the stack instructions (spec/44_load_store_transfer.md). A load is
`exec_read` of a register and Z, N; a store is one `memWrite`; the transfers compute to a register; the stack
instructions rest on `push_eq` and `pull_eq`. -/

namespace Sys2Proof.Machine

open Sys2Proof.Claim

/-! ### Loads -/

/-- An instruction that acquires its operand once, changes the CPU by `f`, which sets Z and N from the operand, and
requests the extra cycle (R270 to R272). -/
theorem exec_load {r : Routine} {o : Operand} {i : Instr} {op : Byte} {n : Nat} (h : r.formOf o = some (i, op, n))
    {f : Byte → Cpu → Cpu}
    (hop : ∀ s, r.operation o s =
      (true, { (fetchOperand o s).2 with cpu := f (fetchOperand o s).1 (fetchOperand o s).2.cpu }))
    (hp : ∀ m c, (f m c).p = setZN m c.p) (s : State) :
    i.opcode = op ∧ ∃ t, exec i s = .next t ∧
      t.cpu = { ended (crossesPage o s) (f (operandRead o s).1 (afterRead o n s)) with p := t.cpu.p } ∧
      ZeroNegativeOf (operandRead o s).1 t ∧ OnlyFlags [.z, .n] t s ∧ SameDevices t (operandRead o s).2 ∧
      MemoryKept t s := by
  obtain ⟨hcode, t, hexec, hcpu, hsame, hkept⟩ := exec_read h hop s
  rw [Bool.and_true] at hcpu
  have hstatus : t.cpu.p = setFlag .u true (setZN (operandRead o s).1 s.cpu.p) := by
    rw [hcpu, ended, hp]
    rfl
  obtain ⟨hzn, honly⟩ := zeroNegative_of hstatus
  exact ⟨hcode, t, hexec, by rw [hcpu], hzn, honly, hsame, hkept⟩

/-- Settles O19: the three differ in the register alone. -/
theorem loadRegisters : Obligations.LoadRegisters := fun _ _ _ _ s =>
  ⟨fun h => exec_load (r := .lda) h (f := fun m c => { c with a := m, p := setZN m c.p }) (fun _ => rfl)
      (fun _ _ => rfl) s,
    fun h => exec_load (r := .ldx) h (f := fun m c => { c with x := m, p := setZN m c.p }) (fun _ => rfl)
      (fun _ _ => rfl) s,
    fun h => exec_load (r := .ldy) h (f := fun m c => { c with y := m, p := setZN m c.p }) (fun _ => rfl)
      (fun _ _ => rfl) s⟩

/-! ### Stores -/

/-- The mode routines other than IMP form the address and leave the operand latch (R155). -/
theorem afterMode_cpu {o : Operand} (ho : o ≠ .imp) (n : Nat) (s : State) :
    (afterMode o n s).cpu = afterAddress o n s := by
  cases o with
  | imp => exact absurd rfl ho
  | imm | zp0 | zpx | zpy | rel | abs | abx | aby | ind | izx | izy => rfl

/-- A store as a whole instruction: one write, the address latch, the countdown and U (R273 to R275). -/
theorem runInstr_store {o : Operand} (ho : o ≠ .imp) (hdata : isData o = true) {op : Operation} {reg : Cpu → Byte}
    (hop : ∀ s, op o s = (false, memWrite s.cpu.addrAbs (reg s.cpu) s)) (n : Nat) (s : State) :
    runInstr n o op s =
      { memWrite (effectiveAddress o s) (reg (afterAddress o n s)) s with
        cpu := { afterAddress o n s with p := setFlag .u true s.cpu.p } } := by
  have hmode : afterMode o n s = { s with cpu := afterAddress o n s } := by
    rw [← afterMode_cpu ho]
    rfl
  rw [runInstr_plain (f := fun u => memWrite u.cpu.addrAbs (reg u.cpu) u) hdata hop, hmode, Bool.and_false]
  simp only [memWrite_withCpu]
  rfl

/-- The law of STA, STX and STY. -/
theorem storeLaw {r : Routine} {reg : Cpu → Byte}
    (hop : ∀ o s, r.operation o s = (false, memWrite s.cpu.addrAbs (reg s.cpu) s))
    (hreg : ∀ (o : Operand) (n : Nat) (s : State), reg (afterAddress o n s) = reg s.cpu)
    (himp : r.formOf .imp = none) : StoreLaw r.formOf reg := by
  intro o i op n s h
  obtain ⟨hcode, hdata, hexec⟩ := formOf_runs h
  have ho : o ≠ .imp := by
    rintro rfl
    cases himp.symm.trans h
  have hrun := (hexec s).trans (congrArg Host.Outcome.next (runInstr_store ho hdata (hop o) n s))
  rw [hreg] at hrun
  exact ⟨hcode, _, hrun, rfl, onlyFlags_none rfl, ⟨rfl, rfl, rfl, rfl⟩, memWrite_storedByte _ _ s _ rfl rfl rfl⟩

/-- Settles O20: the three differ in the register alone. -/
theorem storeRegisters : Obligations.StoreRegisters :=
  ⟨storeLaw (r := .sta) (fun _ _ => rfl) (fun _ _ _ => rfl) rfl,
    storeLaw (r := .stx) (fun _ _ => rfl) (fun _ _ _ => rfl) rfl,
    storeLaw (r := .sty) (fun _ _ => rfl) (fun _ _ _ => rfl) rfl⟩

/-! ### Transfers -/

/-- TXS: S from X, and no flag but the forced U (R150, R280). -/
theorem exec_txs (s : State) :
    exec .txs s =
      .next { s with cpu := { afterRead .imp 2 s with s := s.cpu.x, p := setFlag .u true s.cpu.p } } := rfl

/-- Settles O21: mode IMP sets the latches alone (R155); all but TXS end with `SetZN` of the source. -/
theorem registerTransfers : Obligations.RegisterTransfers := fun s =>
  ⟨⟨rfl, exec_zeroNegative (c := { afterRead .imp 2 s with x := s.cpu.a }) rfl⟩,
    ⟨rfl, exec_zeroNegative (c := { afterRead .imp 2 s with y := s.cpu.a }) rfl⟩,
    ⟨rfl, exec_zeroNegative (c := { afterRead .imp 2 s with x := s.cpu.s }) rfl⟩,
    ⟨rfl, exec_zeroNegative (c := { afterRead .imp 2 s with a := s.cpu.x }) rfl⟩,
    ⟨rfl, _, exec_txs s, rfl, onlyFlags_none rfl, nothingStored_withCpu _ s⟩,
    ⟨rfl, exec_zeroNegative (c := { afterRead .imp 2 s with a := s.cpu.y }) rfl⟩⟩

/-! ### Pushes -/

/-- A byte pushed is seen through its stack byte, and only that changes. -/
theorem byteOnStack_seen {v : Byte} {t s : State} (hr : t.bus.ram = Memory.write s.bus.ram (256 + s.cpu.s.toNat) v)
    (hb : t.bus = { s.bus with ram := t.bus.ram }) (hc : t.cart = s.cart) (hp : t.ppu = s.ppu)
    (hg : t.config = s.config) : peek (slot s.cpu.s) t = v ∧ StackStored [s.cpu.s] t s := by
  refine ⟨?_, stackStored_of (fun k hk => ?_) hb hc hp hg⟩
  · rw [peek_slot, hr, Memory.read_write_self]
  · rw [hr, Memory.read_write_of_ne _ _ (hk _ (List.mem_singleton_self _))]

/-- A push as a whole instruction of mode IMP (R171, R282, R283). -/
theorem runInstr_push (v : Cpu → Byte) (s : State) :
    runInstr 3 .imp (fun _ u => (false, push (v u.cpu) u)) s =
      { s with
        cpu := { afterRead .imp 3 s with s := s.cpu.s - 1#8, p := setFlag .u true s.cpu.p }
        bus := { s.bus with ram := Memory.write s.bus.ram (256 + s.cpu.s.toNat) (v (afterRead .imp 3 s)) } } := by
  rw [runInstr_eq]
  simp only [push_eq]
  rfl

/-- The law of an instruction of mode IMP that pushes `v` of the CPU. -/
theorem exec_push {i : Instr} {s : State} (v : Cpu → Byte)
    (h : exec i s = .next (runInstr 3 .imp (fun _ u => (false, push (v u.cpu) u)) s)) :
    ∃ t, exec i s = .next t ∧ t.cpu = { afterRead .imp 3 s with s := s.cpu.s - 1#8, p := t.cpu.p } ∧
      peek (slot s.cpu.s) t = v (afterRead .imp 3 s) ∧ OnlyFlags [] t s ∧ StackStored [s.cpu.s] t s := by
  rw [runInstr_push] at h
  refine ⟨_, h, rfl, ?_⟩
  rw [and_left_comm]
  exact ⟨onlyFlags_none rfl, byteOnStack_seen rfl rfl rfl rfl rfl⟩

/-- Settles O22: the two push a byte of the CPU, PHP the status with B and U set (`pushedStatus_eq`). -/
theorem stackPushes : Obligations.StackPushes := by
  intro s
  refine ⟨⟨rfl, exec_push Cpu.a rfl⟩, rfl, ?_⟩
  rw [← pushedStatus_eq]
  exact exec_push (fun c => pushedStatus c.p) rfl

/-! ### Pulls -/

/-- PLA: A from the byte above S, with its Z and N (R284). -/
theorem exec_pla (s : State) :
    exec .pla s =
      .next { s with
        cpu :=
          { afterRead .imp 4 s with
            a := peek (slot (s.cpu.s + 1#8)) s
            s := s.cpu.s + 1#8
            p := setFlag .u true (setZN (peek (slot (s.cpu.s + 1#8)) s) s.cpu.p) } } := by
  show Host.Outcome.next (runInstr 4 .imp opPla s) = _
  rw [runInstr_eq]
  simp only [opPla, pull_eq]
  rfl

/-- The status PLP leaves of the byte it pulls, with U forced at the end (R150, R285). -/
theorem pulledStatus_eq (p : Byte) : setFlag .u true (setFlag .u true p) = p ||| 0x20#8 := by
  rw [setFlag_unused, setFlag_unused, BitVec.or_assoc, BitVec.or_self]

/-- PLP: P from the byte above S, U set (R285). -/
theorem exec_plp (s : State) :
    exec .plp s =
      .next { s with
        cpu := { afterRead .imp 4 s with s := s.cpu.s + 1#8, p := peek (slot (s.cpu.s + 1#8)) s ||| 0x20#8 } } := by
  show Host.Outcome.next (runInstr 4 .imp opPlp s) = _
  rw [runInstr_eq, ← pulledStatus_eq]
  simp only [opPlp, pull_eq]
  rfl

/-- Settles O23. -/
theorem stackPulls : Obligations.StackPulls := fun s =>
  ⟨⟨rfl, exec_zeroNegative
      (c := { afterRead .imp 4 s with a := peek (slot (s.cpu.s + 1#8)) s, s := s.cpu.s + 1#8 }) (exec_pla s)⟩,
    rfl, _, exec_plp s, rfl, nothingStored_withCpu _ s⟩

end Sys2Proof.Machine
end

section
/-! O24 to O26: the flag instructions, the NOPs and the fillers (spec/45_flags_nop_illegal.md). A flag instruction is one
`setFlag`; the NOPs and the fillers are `opNop` in their modes, which leaves what the mode routine made. -/

namespace Sys2Proof.Machine

open Sys2Proof.Claim

/-! ### Flag instructions -/

/-- A flag instruction has its opcode, writes a flag that is not U, and runs the one routine of R300 to R306. -/
theorem flagInstruction_runs {i : Instr} {op : Byte} {f : Flag} {value : Bool} (h : (i, op, f, value) ∈ flagInstructions) :
    i.opcode = op ∧ f ≠ .u ∧ ∀ s, exec i s = .next (runInstr 2 .imp (writeFlag f value) s) := by
  rw [flagInstructions] at h
  fin_cases h <;> exact ⟨rfl, Flag.noConfusion, fun _ => rfl⟩

/-- A flag instruction as a whole: the latches, the countdown, the flag and U (R150, R155). -/
theorem runInstr_writeFlag (f : Flag) (value : Bool) (n : Nat) (s : State) :
    runInstr n .imp (writeFlag f value) s =
      { s with cpu := { afterRead .imp n s with p := setFlag .u true (setFlag f value s.cpu.p) } } := rfl

/-- The flags after one flag is written and U forced. -/
theorem flags_of_setFlag {t s : State} {f : Flag} {value : Bool} (hf : f ≠ .u)
    (h : t.cpu.p = setFlag .u true (setFlag f value s.cpu.p)) : flag f t = value ∧ OnlyFlags [f] t s := by
  refine ⟨?_, onlyFlags_of h (fun g hg => ?_)⟩
  · rw [flag_forced f _ t h, if_neg hf, getFlag_setFlag, if_pos rfl]
  · rw [getFlag_setFlag, if_neg (List.ne_of_not_mem_cons hg)]

/-- Settles O24: the seven are one operation routine. -/
theorem flagSetAndClear : Obligations.FlagSetAndClear := by
  intro i op f value s h
  obtain ⟨hcode, hf, hexec⟩ := flagInstruction_runs h
  have hrun := (hexec s).trans (congrArg Host.Outcome.next (runInstr_writeFlag f value 2 s))
  refine ⟨hcode, _, hrun, rfl, ?_⟩
  rw [← and_assoc]
  exact ⟨flags_of_setFlag hf rfl, nothingStored_withCpu _ s⟩

/-! ### NOPs -/

/-- The operand latch after a mode routine, as the statements say it (R155). -/
theorem latched_eq (o : Operand) (s : State) : latched o s = if o = .imp then s.cpu.a else s.cpu.fetched := by
  cases o <;> rfl

/-- The NOP routine as a whole instruction: the mode's latches, the countdown and U (R150, R152, R309). -/
theorem runInstr_nop {o : Operand} (hdata : isData o = true) (extra : Bool) (n : Nat) (s : State) :
    runInstr n o (opNop extra) s =
      { s with
        cpu :=
          { afterAddress o (n + bit (crossesPage o s && extra)) s with
            fetched := if o = .imp then s.cpu.a else s.cpu.fetched, p := setFlag .u true s.cpu.p } } := by
  rw [runInstr_plain (f := id) hdata (fun _ => rfl), ← latched_eq]
  rfl

/-- A NOP runs the one routine of R309 in its mode, and requests the extra cycle where the mode tests the page (ABX). -/
theorem nop_runs {o : Operand} {i : Instr} {n : Nat} (h : (i, n) ∈ nops o) :
    isData o = true ∧ ∀ s, exec i s = .next (runInstr n o (opNop (testsPage o)) s) := by
  cases o with
  | imp | imm | zp0 | zpx | abs | abx =>
    rw [nops] at h
    fin_cases h <;> exact ⟨rfl, fun _ => rfl⟩
  | zpy | rel | aby | ind | izx | izy => cases h

/-- Settles O25. -/
theorem nopsChangeNothing : Obligations.NopsChangeNothing := by
  intro o i n s h
  obtain ⟨hdata, hexec⟩ := nop_runs h
  have hrun := (hexec s).trans (congrArg Host.Outcome.next (runInstr_nop hdata (testsPage o) n s))
  rw [Bool.and_comm (crossesPage o s), crossesPage_and_testsPage] at hrun
  exact ⟨_, hrun, rfl, onlyFlags_none rfl, nothingStored_withCpu _ s⟩

/-! ### Fillers -/

/-- A filler runs as R310 and R311 say, with its base cycles. -/
theorem filler_runs {i : Instr} {n : Nat} (h : (i, n) ∈ fillers) (s : State) : exec i s = runFiller n s := by
  rw [fillers, fillersLow, fillersMiddle, fillersHigh] at h
  fin_cases h <;> rfl

/-- Under FILLER: the accumulator latch, the countdown and U (R155, R310). -/
theorem runFiller_filler {s : State} (h : s.config.illegalOpcode = .filler) (n : Nat) :
    runFiller n s = .next { s with cpu := { afterRead .imp n s with p := setFlag .u true s.cpu.p } } := by
  rw [runFiller, h]
  rfl

theorem runFiller_refuse {s : State} (h : s.config.illegalOpcode = .refuse) (n : Nat) :
    runFiller n s = .refused .illegalOpcode := by
  rw [runFiller, h]

/-- Settles O26. -/
theorem fillerOpcodes : Obligations.FillerOpcodes := fun _ n s h =>
  ⟨fun hfiller => ⟨_, (filler_runs h s).trans (runFiller_filler hfiller n), rfl, onlyFlags_none rfl,
      nothingStored_withCpu _ s⟩,
    fun hrefuse => (filler_runs h s).trans (runFiller_refuse hrefuse n)⟩

end Sys2Proof.Machine
end

section
/-! O46 and O47: taking an interrupt (R330 to R333) and the vblank NMI (R416, R451). Of a tick's part between the PPU's step and the
end of the tick O47 needs only that it keeps the NMI request and the tick count, which is the induction over bus accesses; the rest
is what an entry shows of itself. -/

/-! ### What an entry shows of itself -/

namespace Sys2Proof.Claim

open Sys2Proof.Machine

section

variable {vec : Word} {n : Nat} {t s : State} (h : Entered vec n t s)
include h

theorem Entered.cycles : t.cpu.cycles = n := by
  obtain ⟨hcpu, -⟩ := h
  rw [hcpu]

/-- The vector is read from PRG space, which the entry leaves alone. -/
theorem Entered.pc (ha : 0x8000 ≤ vec.toNat) (hb : 0x8000 ≤ (vec + 1#16).toNat) : t.cpu.pc = vectorWord vec t := by
  obtain ⟨hcpu, -, -, -, -, hcart, -⟩ := h
  rw [hcpu, vectorWord_congr ha hb hcart]

theorem Entered.status : t.cpu.p = setFlag .i true (setFlag .u true (setFlag .b false s.cpu.p)) := by
  obtain ⟨hcpu, -⟩ := h
  rw [hcpu, entryStatus_eq]

theorem Entered.flag_i : flag .i t = true := by simp [flag, h.status]

theorem Entered.flag_b : flag .b t = false := by simp [flag, h.status]

/-- The new P lies on top of the stack. -/
theorem Entered.topOfStack : peek (slot (t.cpu.s + 1#8)) t = t.cpu.p := by
  obtain ⟨hcpu, -, hstatus, -⟩ := h
  have hs : t.cpu.s = s.cpu.s - 3#8 := by rw [hcpu]
  have htop : t.cpu.s + 1#8 = s.cpu.s - 2#8 := by bv_omega
  rw [htop, hstatus]

theorem Entered.ppu : t.ppu = s.ppu := by
  obtain ⟨-, -, -, -, -, -, hppu, -⟩ := h
  exact hppu

theorem Entered.tick : t.bus.tick = s.bus.tick := by
  obtain ⟨-, -, -, -, hbus, -⟩ := h
  rw [hbus]

end

end Sys2Proof.Claim

namespace Sys2Proof.Machine

open Sys2Proof.Claim

/-! ### NMI and IRQ -/

/-- NMI is the entry through 0xFFFA, whatever I holds (R332). -/
theorem entered_nmi (s : State) : Entered 0xFFFA#16 8 (nmi s) s :=
  entered_interruptEntry (vec := nmiVector) 8 s (by decide) (by decide)

/-- An accepted IRQ is the entry through 0xFFFE (R331). -/
theorem entered_irq {s : State} (h : flag .i s = false) : Entered 0xFFFE#16 7 (irq s) s := by
  have hirq : irq s = interruptEntry irqVector 7 s := if_neg (ne_true_of_eq_false h)
  rw [hirq]
  exact entered_interruptEntry (vec := irqVector) 7 s (by decide) (by decide)

/-- A masked IRQ is dropped (R331). -/
theorem irq_masked {s : State} (h : flag .i s = true) : irq s = s := if_pos h

/-! ### The tick count along a tick -/

theorem memRead_tick (a : Word) (s : State) : (memRead a s).2.bus.tick = s.bus.tick := by
  unfold memRead
  split
  · rfl
  · split
    · rfl
    · split
      · rw [ppuPortRead_frame]
      · split
        · cases controllerOf a <;> rfl
        · rfl

theorem memWrite_tick (a : Word) (v : Byte) (s : State) : (memWrite a v s).bus.tick = s.bus.tick := by
  unfold memWrite
  split
  · rfl
  · split
    · rfl
    · split
      · rw [ppuPortWrite_bus]
      · split
        · rfl
        · split
          · cases controllerOf a <;> rfl
          · rfl

theorem tick_busInvariant (n : Nat) : BusInvariant (fun s => s.bus.tick = n) where
  cpu := fun _ _ h => h
  read := fun a s h => (memRead_tick a s).trans h
  write := fun a v s h => (memWrite_tick a v s).trans h

theorem dmaStep_tick (s : State) : (dmaStep s).bus.tick = s.bus.tick := by
  unfold dmaStep
  split
  · split <;> rfl
  · split
    · exact memRead_tick _ s
    · rfl

/-- What bus accesses and a DMA step keep, the part of a tick between the PPU's step and its end keeps. -/
theorem BusInvariant.clockCpuOrDma {P : State → Prop} (inv : BusInvariant P) (hdma : ∀ s, P s → P (dmaStep s))
    {s t : State} (h : P s) (ht : Machine.clockCpuOrDma s = .next t) : P t := by
  rcases clockCpuOrDma_cases ht with ⟨-, rfl⟩ | ⟨-, -, u, hu, rfl⟩ | ⟨-, -, rfl⟩ | rfl
  · exact hdma s h
  · exact inv.of (inv.exec (inv.fetchInstr h) hu) rfl
  · exact inv.of h rfl
  · exact h

theorem clockCpuOrDma_nmi {s t : State} (h : clockCpuOrDma s = .next t) : t.ppu.nmi = s.ppu.nmi :=
  (nmi_busInvariant s.ppu.nmi).clockCpuOrDma (fun s hs => (dmaStep_portsOnly s).nmi.trans hs) rfl h

theorem clockCpuOrDma_tick {s t : State} (h : clockCpuOrDma s = .next t) : t.bus.tick = s.bus.tick :=
  (tick_busInvariant s.bus.tick).clockCpuOrDma (fun s hs => (dmaStep_tick s).trans hs) rfl h

/-! ### The vblank NMI -/

/-- The PPU's step at (241, 1) runs no pipeline: its one action is the start of vblank (R401, R416). -/
theorem rasterActions_vblank {s : State} (hline : s.ppu.scanline = 241) (hcol : s.ppu.cycle = 1) :
    rasterActions s = vblankStart s := by
  simp [rasterActions, runIf, hline, hcol]

/-- The PPU's step at (241, 1) requests the NMI if it is enabled (R416). -/
theorem ppuClock_vblank_nmi {s : State} (hline : s.ppu.scanline = 241) (hcol : s.ppu.cycle = 1)
    (henabled : s.ppu.enableNmi = true) : (ppuClock s).ppu.nmi = true := by
  have hskip : skipOddFrame s = s := skipOddFrame_none (.inr (.inr (by rw [hcol]; decide)))
  rw [ppuClock_actions, hskip, rasterActions_vblank hline hcol]
  simp [vblankStart, henabled]

/-- Settles O47: the request of the PPU's step outlives whatever the CPU or the DMA engine does, so the tick ends in the entry. -/
theorem vblankNmiIsTakenAtOnce : Obligations.VblankNmiIsTakenAtOnce := by
  intro s t hline hcol henabled ht
  obtain ⟨-, u, hu, rfl⟩ := step_next ht
  have hnmi : u.ppu.nmi = true := (clockCpuOrDma_nmi hu).trans (ppuClock_vblank_nmi hline hcol henabled)
  have htick : u.bus.tick = s.bus.tick := by rw [clockCpuOrDma_tick hu, ppuClock_bus]
  rw [endTick_nmi hnmi]
  have hentered := entered_nmi { u with ppu := { u.ppu with nmi := false } }
  refine ⟨hentered.cycles, hentered.pc (by decide) (by decide), hentered.flag_i, hentered.flag_b, ?_, ?_, ?_⟩
  · rw [← hentered.topOfStack, peek_slot, peek_slot]
  · exact congrArg Ppu.nmi hentered.ppu
  · exact congrArg (· + 1) (hentered.tick.trans htick)

end Sys2Proof.Machine

namespace Sys2Proof

open Sys2Proof.Machine

/-- Settles O46. It stands outside `Sys2Proof.Machine`, where its name is the operation's. -/
theorem interruptEntry : Obligations.InterruptEntry := fun s => ⟨entered_nmi s, irq_masked, entered_irq⟩

end Sys2Proof
end

section
/-! O49 to O52: the PPU's ports as the CPU sees them (R360 to R375), at every mirror: which port an address reaches, then the
register writes in numbers. -/

namespace Sys2Proof.Machine

open Sys2Proof.Claim

/-! ### Which port an address reaches -/

/-- The ports by number (R360). -/
def portNumber : PpuPort → Nat
  | .ctrl => 0
  | .mask => 1
  | .status => 2
  | .oamAddr => 3
  | .oamData => 4
  | .scroll => 5
  | .addr => 6
  | .data => 7

section

variable {a : Word} {port : PpuPort} (h : isPort a (portNumber port))
include h

theorem portOf_of_isPort : portOf a = port := by
  obtain ⟨-, -, hk⟩ := h
  rw [portOf_eq, hk]
  cases port <;> rfl

/-- A read at any mirror of a port (R71, R75). -/
theorem memRead_isPort (s : State) : memRead a s = ppuPortRead port s := by
  have ⟨hlow, hhigh, _⟩ := h
  rw [memRead_port s hlow hhigh, portOf_of_isPort h]

/-- A write at any mirror of a port (R72, R75). -/
theorem memWrite_isPort (d : Byte) (s : State) : memWrite a d s = ppuPortWrite port d s := by
  have ⟨hlow, hhigh, _⟩ := h
  rw [memWrite_port d s hlow hhigh, portOf_of_isPort h]

end

/-! ### Bit operations as numbers -/

/-- A mask of the low `k` bits is a remainder. -/
theorem toNat_and_lowMask {w : Nat} (v : BitVec w) {mask : BitVec w} (k : Nat) (h : mask.toNat = 2 ^ k - 1) :
    (v &&& mask).toNat = v.toNat % 2 ^ k := by
  rw [BitVec.toNat_and, h, Nat.and_two_pow_sub_one_eq_mod]

/-- A bit vector is known by its number. -/
theorem eq_ofNat_of_toNat {w n : Nat} {v : BitVec w} (h : v.toNat = n) : v = BitVec.ofNat w n := by
  rw [← h, BitVec.ofNat_toNat, BitVec.setWidth_eq]

/-- A bit as the number it stands for. -/
theorem bool_toNat_decide (n k : Nat) : (decide (n / k % 2 = 1)).toNat = n / k % 2 := by
  rcases Nat.mod_two_eq_zero_or_one (n / k) with h | h <;> simp [h]

/-! ### PPUSTATUS -/

/-- The byte of a PPUSTATUS read in numbers (R364). -/
theorem statusByte_toNat (p : Ppu) : (statusByte p).toNat = p.status.toNat / 32 * 32 + p.dataBuffer.toNat % 32 := by
  have hflags : ∀ x : Byte, (x &&& 0xE0#8).toNat = 2 ^ 5 * (x.toNat / 32) := by decide
  have hstale : (p.dataBuffer &&& 0x1F#8).toNat = p.dataBuffer.toNat % 32 := toNat_and_lowMask _ 5 rfl
  rw [statusByte, BitVec.toNat_or, hflags, hstale, ← Nat.two_pow_add_eq_or_of_lt (Nat.mod_lt _ (by decide))]
  omega

/-- Settles O49. -/
theorem statusReadClearsVblank : Obligations.StatusReadClearsVblank := by
  intro s a h
  rw [memRead_isPort (port := .status) h]
  exact ⟨statusByte_toNat s.ppu, rfl⟩

/-! ### The fields of `t` a byte is written to -/

theorem highFive_toNat (d : Byte) : ((d >>> 3).setWidth 5).toNat = d.toNat / 8 := by
  have hd := d.isLt
  simp [Nat.shiftRight_eq_div_pow]
  omega

theorem lowThree_toNat (d : Byte) : ((d &&& 0x07#8).setWidth 3).toNat = d.toNat % 8 := by
  have h : (d &&& 0x07#8).toNat = d.toNat % 8 := toNat_and_lowMask d 3 rfl
  rw [BitVec.toNat_setWidth, h]
  omega

/-- The first write to PPUSCROLL: coarse X (R371). -/
theorem scrollFirst_eq (d : Byte) (t : Loopy) :
    withCoarseX ((d >>> 3).setWidth 5) t = BitVec.ofNat 15 (t.toNat / 32 * 32 + d.toNat / 8) :=
  eq_ofNat_of_toNat (by rw [withCoarseX_toNat, highFive_toNat])

/-- The second write to PPUSCROLL: fine Y and coarse Y (R371). -/
theorem scrollSecond_eq (d : Byte) (t : Loopy) :
    withCoarseY ((d >>> 3).setWidth 5) (withFineY ((d &&& 0x07#8).setWidth 3) t) =
      BitVec.ofNat 15 (d.toNat % 8 * 4096 + t.toNat / 1024 % 4 * 1024 + d.toNat / 8 * 32 + t.toNat % 32) := by
  refine eq_ofNat_of_toNat ?_
  rw [withCoarseY_toNat, withFineY_toNat, highFive_toNat, lowThree_toNat]
  omega

/-- The first write to PPUADDR: bits 13 to 8, and bit 14 cleared (R372). -/
theorem addrFirst_eq (d : Byte) (t : Loopy) :
    ((d &&& 0x3F#8).setWidth 15 <<< 8) ||| (t &&& 0x00FF#15) =
      BitVec.ofNat 15 (d.toNat % 64 * 256 + t.toNat % 256) := by
  refine eq_ofNat_of_toNat ?_
  have hd : (d &&& 0x3F#8).toNat = d.toNat % 64 := toNat_and_lowMask d 6 rfl
  have ht := t.isLt
  have hfield : ((d &&& 0x3F#8).setWidth 15 <<< 8 : Loopy).toNat = 2 ^ 8 * (d.toNat % 64) := by
    rw [BitVec.toNat_shiftLeft, BitVec.toNat_setWidth, hd, Nat.shiftLeft_eq]
    omega
  rw [BitVec.or_comm, writeField_toNat 8 7 0x00FF#15 _ t (by omega) (by decide) (by decide) hfield]
  omega

/-- The second write to PPUADDR: the low byte (R372). -/
theorem addrSecond_eq (d : Byte) (t : Loopy) :
    (t &&& 0x7F00#15) ||| d.setWidth 15 = BitVec.ofNat 15 (t.toNat / 256 * 256 + d.toNat) := by
  refine eq_ofNat_of_toNat ?_
  have hd := d.isLt
  rw [writeField_toNat 0 8 0x7F00#15 _ t d.isLt (by decide) (by decide) (by simp; omega)]
  omega

/-- A write to PPUCTRL: the nametable bits (R363). -/
theorem ctrlNametable_eq (d : Byte) (t : Loopy) :
    withNametableY (d.getLsbD 1) (withNametableX (d.getLsbD 0) t) =
      BitVec.ofNat 15 (t.toNat / 4096 * 4096 + d.toNat % 4 * 1024 + t.toNat % 1024) := by
  refine eq_ofNat_of_toNat ?_
  have hbit (k : Nat) : (d.getLsbD k).toNat = d.toNat / 2 ^ k % 2 := by
    rw [getLsbD_eq_decide, bool_toNat_decide]
  rw [withNametableY_toNat, withNametableX_toNat, hbit, hbit]
  omega

/-! ### PPUSCROLL and PPUADDR -/

theorem scrollWrite_first {p : Ppu} (hw : p.w = false) (d : Byte) :
    scrollWrite d p =
      { p with
        fineX := BitVec.ofNat 3 (d.toNat % 8), t := BitVec.ofNat 15 (p.t.toNat / 32 * 32 + d.toNat / 8), w := true } := by
  have hx : (d &&& 0x07#8).setWidth 3 = BitVec.ofNat 3 (d.toNat % 8) := eq_ofNat_of_toNat (lowThree_toNat d)
  rw [scrollWrite, if_neg (ne_true_of_eq_false hw), scrollFirst_eq, hx]

theorem scrollWrite_second {p : Ppu} (hw : p.w = true) (d : Byte) :
    scrollWrite d p =
      { p with
        t := BitVec.ofNat 15
          (d.toNat % 8 * 4096 + p.t.toNat / 1024 % 4 * 1024 + d.toNat / 8 * 32 + p.t.toNat % 32)
        w := false } := by
  rw [scrollWrite, if_pos hw, scrollSecond_eq]

theorem addrWrite_first {p : Ppu} (hw : p.w = false) (d : Byte) :
    addrWrite d p = { p with t := BitVec.ofNat 15 (d.toNat % 64 * 256 + p.t.toNat % 256), w := true } := by
  rw [addrWrite, if_neg (ne_true_of_eq_false hw), addrFirst_eq]

theorem addrWrite_second {p : Ppu} (hw : p.w = true) (d : Byte) :
    addrWrite d p =
      { p with
        t := BitVec.ofNat 15 (p.t.toNat / 256 * 256 + d.toNat)
        v := BitVec.ofNat 15 (p.t.toNat / 256 * 256 + d.toNat)
        w := false } := by
  rw [addrWrite, if_pos hw, addrSecond_eq]

/-- Settles O50, by the two halves of each port. -/
theorem twoWritePorts : Obligations.TwoWritePorts := by
  intro s a d
  refine ⟨fun h hw => ?_, fun h hw => ?_, fun h hw => ?_, fun h hw => ?_⟩
  · rw [memWrite_isPort (port := .scroll) h, ppuPortWrite, scrollWrite_first hw]
  · rw [memWrite_isPort (port := .scroll) h, ppuPortWrite, scrollWrite_second hw]
  · rw [memWrite_isPort (port := .addr) h, ppuPortWrite, addrWrite_first hw]
  · rw [memWrite_isPort (port := .addr) h, ppuPortWrite, addrWrite_second hw]

/-! ### PPUDATA -/

/-- `Increment()` in numbers (R375). -/
theorem incrementV_eq (p : Ppu) : incrementV p = { p with v := vNext p } := by
  have hbit : p.incrementMode = true ↔ p.ctrl.toNat / 4 % 2 = 1 := by
    rw [Ppu.incrementMode, getLsbD_eq_decide, decide_eq_true_eq]
    exact Iff.rfl
  have hv : p.v + (if p.incrementMode then 32#15 else 1#15) = vNext p := by
    simp only [hbit, vNext]
    split <;> rw [BitVec.ofNat_add, BitVec.ofNat_toNat, BitVec.setWidth_eq]
  rw [incrementV, hv]

theorem dataAddress_eq (p : Ppu) : dataAddress p = BitVec.ofNat 14 p.v.toNat := (BitVec.ofNat_toNat 14 p.v).symm

/-- A read of PPUDATA (R373). -/
theorem dataRead_eq (s : State) :
    dataRead s =
      (if 0x3F00 ≤ (dataAddress s.ppu).toNat then ppuRead (dataAddress s.ppu) s else s.ppu.dataBuffer,
        { s with ppu := { s.ppu with dataBuffer := ppuRead (dataAddress s.ppu) s, v := vNext s.ppu } }) := by
  rw [dataRead, incrementV_eq]
  rfl

/-- A write to PPUDATA: the PPU bus leaves `v` and `ctrl` alone (R374). -/
theorem dataWrite_eq (d : Byte) (s : State) :
    dataWrite d s =
      { ppuWrite (dataAddress s.ppu) d s with
        ppu := { (ppuWrite (dataAddress s.ppu) d s).ppu with v := vNext s.ppu } } := by
  have hv : vNext (ppuWrite (dataAddress s.ppu) d s).ppu = vNext s.ppu := by
    rw [ppuWrite_ppu]
    rfl
  rw [dataWrite, incrementV_eq, hv]

/-- Settles O51. -/
theorem ppuDataAccess : Obligations.PpuDataAccess := by
  intro s a d h
  dsimp only
  rw [memRead_isPort (port := .data) h, memWrite_isPort (port := .data) h, ← dataAddress_eq]
  exact ⟨dataRead_eq s, dataWrite_eq d s⟩

/-! ### The other ports -/

theorem ctrlWrite_eq (d : Byte) (p : Ppu) :
    ctrlWrite d p =
      { p with
        ctrl := d
        t := BitVec.ofNat 15 (p.t.toNat / 4096 * 4096 + d.toNat % 4 * 1024 + p.t.toNat % 1024) } := by
  rw [ctrlWrite, ctrlNametable_eq]

/-- Settles O52, one port at a time. -/
theorem singlePorts : Obligations.SinglePorts := by
  intro s a d
  refine ⟨fun h => ?_, fun h => ?_, fun h => ?_, fun h => ?_, fun h => ⟨?_, ?_⟩, fun h => ?_⟩
  · rw [memWrite_isPort (port := .ctrl) h, ppuPortWrite, ctrlWrite_eq]
  · exact memWrite_isPort (port := .mask) h d s
  · exact memWrite_isPort (port := .status) h d s
  · exact memWrite_isPort (port := .oamAddr) h d s
  · exact memRead_isPort (port := .oamData) h s
  · exact memWrite_isPort (port := .oamData) h d s
  · rcases h with h | h | h | h | h
    · exact memRead_isPort (port := .ctrl) h s
    · exact memRead_isPort (port := .mask) h s
    · exact memRead_isPort (port := .oamAddr) h s
    · exact memRead_isPort (port := .scroll) h s
    · exact memRead_isPort (port := .addr) h s

end Sys2Proof.Machine
end

section
/-! O54: the raster (R400, R402, R426). A position is a number below 341 * 262; a PPU step is that of the position the
odd-frame skip leaves and takes it to the next one, so that the position along a frame is the number of steps made. -/

namespace Sys2Proof.Machine

open Sys2Proof.Claim

/-! ### The odd-frame skip (R402) -/

theorem renderingEnabled_eq (p : Ppu) : p.renderingEnabled = rendering p := by
  simp only [Ppu.renderingEnabled, Ppu.renderBackground, Ppu.renderSprites, getLsbD_eq_decide]
  rfl

theorem shortFrame_iff {s : State} :
    shortFrame s = true ↔
      s.config.oddFrameSkip = .oddFramesWhenRendering ∧ s.ppu.oddFrame = true ∧ s.ppu.renderingEnabled = true := by
  simp only [shortFrame, renderingEnabled_eq, Bool.and_eq_true, decide_eq_true_eq, and_assoc]

/-- The skip leaves the PPU of the statements. -/
theorem skipOddFrame_eq (s : State) : skipOddFrame s = { s with ppu := afterSkip s } := by
  unfold skipOddFrame runIf afterSkip
  by_cases h : shortFrame s = true ∧ s.ppu.scanline = 0 ∧ s.ppu.cycle = 0
  · obtain ⟨hshort, hline, hcycle⟩ := h
    obtain ⟨hmode, hodd, hrender⟩ := shortFrame_iff.mp hshort
    rw [if_pos ⟨hmode, hline, hcycle, hodd, hrender⟩, if_pos ⟨hshort, hline, hcycle⟩]
  · rw [if_neg (fun ⟨hmode, hline, hcycle, hodd, hrender⟩ =>
      h ⟨shortFrame_iff.mpr ⟨hmode, hodd, hrender⟩, hline, hcycle⟩), if_neg h]

@[simp] theorem skipOddFrame_ppu (s : State) : (skipOddFrame s).ppu = afterSkip s := by rw [skipOddFrame_eq]

/-- Off line 0 nothing is skipped. -/
theorem afterSkip_of_scanline_ne {s : State} (h : s.ppu.scanline ≠ 0) : afterSkip s = s.ppu := by
  rw [afterSkip, if_neg (fun hh => h hh.2.1)]

/-! ### Positions -/

/-- A position inside the raster is the number of one line and one column. -/
theorem position_eq_iff {p : Ppu} (h : p.rasterOk = true) {line : Int} {col : Nat} (hcol : col ≤ 340) :
    position p = (line + 1) * 341 + col ↔ p.scanline = line ∧ p.cycle = col := by
  obtain ⟨hcycle, -, -⟩ := rasterOk_iff.mp h
  unfold position
  omega

theorem position_bounds {p : Ppu} (h : p.rasterOk = true) : 0 ≤ position p ∧ position p < 89342 := by
  obtain ⟨hcycle, hlow, hhigh⟩ := rasterOk_iff.mp h
  unfold position
  omega

/-- The skip moves position 341, which is (0, 0), of a shortened frame, by one. -/
theorem position_afterSkip {s : State} (h : s.ppu.rasterOk = true) :
    position (afterSkip s) = if shortFrame s = true ∧ position s.ppu = 341 then 342 else position s.ppu := by
  have h341 : position s.ppu = 341 ↔ s.ppu.scanline = 0 ∧ s.ppu.cycle = 0 :=
    position_eq_iff h (line := 0) (col := 0) (by decide)
  simp only [h341]
  by_cases hskip : shortFrame s = true ∧ s.ppu.scanline = 0 ∧ s.ppu.cycle = 0
  · have ⟨_, hline, _⟩ := hskip
    simp only [position, afterSkip, if_pos hskip]
    omega
  · simp only [position, afterSkip, if_neg hskip]

theorem afterSkip_rasterOk {s : State} (h : s.ppu.rasterOk = true) : (afterSkip s).rasterOk = true := by
  rw [← skipOddFrame_ppu]
  exact skipOddFrame_rasterOk h

/-! ### The raster counter (R426) -/

/-- The last position is (260, 340). -/
theorem position_last_iff {p : Ppu} (h : p.rasterOk = true) :
    position p = 89341 ↔ p.scanline = 260 ∧ p.cycle = 340 :=
  position_eq_iff h (line := 260) (col := 340) (by decide)

/-- At the last position the raster wraps and the frame is complete. -/
theorem advanceRaster_last {s : State} (h : s.ppu.rasterOk = true) (hlast : position s.ppu = 89341) :
    advanceRaster s =
      { s with ppu := { s.ppu with cycle := 0, scanline := -1, frameComplete := true, oddFrame := !s.ppu.oddFrame } } := by
  obtain ⟨hline, hcycle⟩ := (position_last_iff h).mp hlast
  rw [advanceRaster, if_pos (by omega), if_pos (by omega)]

/-- Before it the position goes up by one and the frame is the same. -/
theorem advanceRaster_within {s : State} (h : s.ppu.rasterOk = true) (hlast : position s.ppu ≠ 89341) :
    position (advanceRaster s).ppu = position s.ppu + 1 ∧
      (advanceRaster s).ppu.frameComplete = s.ppu.frameComplete ∧ (advanceRaster s).ppu.oddFrame = s.ppu.oddFrame := by
  obtain ⟨hcycle, -, hhigh⟩ := rasterOk_iff.mp h
  rw [Ne, position_last_iff h] at hlast
  unfold advanceRaster
  by_cases hline : 341 ≤ s.ppu.cycle + 1
  · rw [if_pos hline, if_neg (by omega)]
    refine ⟨?_, rfl, rfl⟩
    simp only [position]
    omega
  · rw [if_neg hline]
    refine ⟨?_, rfl, rfl⟩
    simp only [position]
    omega

/-- One step of the raster counter, from a position inside the raster. -/
theorem advanceRaster_position {s : State} (h : s.ppu.rasterOk = true) :
    position (advanceRaster s).ppu = (position s.ppu + 1) % 89342 ∧
      (advanceRaster s).ppu.frameComplete = (s.ppu.frameComplete || decide (position s.ppu = 89341)) ∧
      (advanceRaster s).ppu.oddFrame = (if position s.ppu = 89341 then !s.ppu.oddFrame else s.ppu.oddFrame) := by
  by_cases hlast : position s.ppu = 89341
  · rw [advanceRaster_last h hlast, hlast]
    exact ⟨by simp [position], (Bool.or_true _).symm, rfl⟩
  · obtain ⟨hposition, hcomplete, hodd⟩ := advanceRaster_within h hlast
    have hbounds := position_bounds h
    rw [hposition, hcomplete, hodd, if_neg hlast, decide_eq_false hlast, Bool.or_false]
    exact ⟨by omega, rfl, rfl⟩

/-- One PPU step on the raster, from the position the skip leaves (R402, R426). -/
theorem ppuClock_position {s : State} (h : s.ppu.rasterOk = true) :
    position (ppuClock s).ppu = (position (afterSkip s) + 1) % 89342 ∧
      (ppuClock s).ppu.frameComplete = (s.ppu.frameComplete || decide (position (afterSkip s) = 89341)) ∧
      (ppuClock s).ppu.oddFrame = (if position (afterSkip s) = 89341 then !s.ppu.oddFrame else s.ppu.oddFrame) := by
  obtain ⟨hcycle, hline, hcomplete, hodd⟩ := ppuClock_raster s
  have hadvance := advanceRaster_position (skipOddFrame_rasterOk h)
  rw [skipOddFrame_ppu] at hadvance
  rw [hcomplete, hodd, position, hcycle, hline]
  exact hadvance

/-! ### A frame -/

/-- The steps of a frame: one fewer when the skip shortens it (R402). -/
def frameLength (s : State) : Nat := if shortFrame s = true then 89341 else 89342

/-- The position after `n` steps of a frame: one further once the skip is made. -/
def framePosition (s : State) (n : Nat) : Nat := if shortFrame s = true ∧ 341 < n then n + 1 else n

/-- `t` is `n` steps into the frame that began at `s`. -/
structure InFrame (s : State) (n : Nat) (t : State) : Prop where
  raster : t.ppu.rasterOk = true
  incomplete : t.ppu.frameComplete = false
  odd : t.ppu.oddFrame = s.ppu.oddFrame
  short : shortFrame t = shortFrame s
  position : position t.ppu = framePosition s n

/-- Steps are made one after the other at either end. -/
theorem ppuSteps_succ (n : Nat) (s : State) : ppuSteps (n + 1) s = ppuClock (ppuSteps n s) := by
  induction n generalizing s with
  | zero => rfl
  | succ n ih => exact ih (ppuClock s)

/-- The position the step after `n` others is made at. -/
theorem InFrame.position_afterSkip {s t : State} {n : Nat} (h : InFrame s n t) :
    Claim.position (afterSkip t) + 1 = framePosition s (n + 1) := by
  rw [Machine.position_afterSkip h.raster, h.short, h.position]
  unfold framePosition
  by_cases hshort : shortFrame s = true
  · simp only [hshort, true_and]
    split <;> split <;> split <;> omega
  · simp [hshort]

/-- The last position of a frame is reached by its last step alone. -/
theorem framePosition_last {s : State} {n : Nat} (h : n < frameLength s) :
    framePosition s (n + 1) = 89342 ↔ n + 1 = frameLength s := by
  unfold frameLength at h ⊢
  unfold framePosition
  by_cases hshort : shortFrame s = true
  · rw [if_pos hshort] at h ⊢
    simp only [hshort, true_and]
    split <;> omega
  · simp [hshort]

/-- What decides whether a frame is shortened, along a step that does not end the frame. -/
theorem shortFrame_ppuClock {s : State} (h : (ppuClock s).ppu.oddFrame = s.ppu.oddFrame) :
    shortFrame (ppuClock s) = shortFrame s := by
  have hmask : (ppuClock s).ppu.mask = s.ppu.mask := by rw [ppuClock_only]
  rw [shortFrame, shortFrame, rendering, rendering, ppuClock_config, h, hmask]

/-- A step inside a frame. -/
theorem InFrame.step {s t : State} {n : Nat} (h : InFrame s n t) (hn : n + 1 < frameLength s) :
    InFrame s (n + 1) (ppuClock t) := by
  obtain ⟨hposition, hcomplete, hodd⟩ := ppuClock_position h.raster
  have hskip := h.position_afterSkip
  have hlast : Claim.position (afterSkip t) ≠ 89341 := by
    have := (framePosition_last (n := n) (by omega)).not.mpr hn.ne
    omega
  have hbounds := position_bounds (afterSkip_rasterOk h.raster)
  rw [decide_eq_false hlast, Bool.or_false, h.incomplete] at hcomplete
  rw [if_neg hlast] at hodd
  refine ⟨ppuClock_rasterOk h.raster, hcomplete, hodd.trans h.odd, (shortFrame_ppuClock hodd).trans h.short, ?_⟩
  omega

/-- The states of a frame, from its first position on. -/
theorem inFrame_ppuSteps {s : State} (hline : s.ppu.scanline = -1) (hcycle : s.ppu.cycle = 0)
    (hcomplete : s.ppu.frameComplete = false) {n : Nat} (hn : n < frameLength s) : InFrame s n (ppuSteps n s) := by
  induction n with
  | zero =>
    refine ⟨?_, hcomplete, rfl, rfl, ?_⟩
    · show s.ppu.rasterOk = true
      simp [Ppu.rasterOk, hline, hcycle]
    · show position s.ppu = framePosition s 0
      simp [position, framePosition, hline, hcycle]
  | succ n ih =>
    rw [ppuSteps_succ]
    exact (ih (by omega)).step hn

/-- The last step of a frame wraps the raster. -/
theorem InFrame.last {s t : State} {n : Nat} (h : InFrame s n t) (hn : n + 1 = frameLength s) :
    (ppuClock t).ppu.frameComplete = true ∧ (ppuClock t).ppu.scanline = -1 ∧ (ppuClock t).ppu.cycle = 0 ∧
      (ppuClock t).ppu.oddFrame = !s.ppu.oddFrame := by
  obtain ⟨hposition, hcomplete, hodd⟩ := ppuClock_position h.raster
  have hlast : Claim.position (afterSkip t) = 89341 := by
    have hskip := h.position_afterSkip
    rw [(framePosition_last (by omega)).mpr hn] at hskip
    omega
  rw [hlast] at hposition hcomplete hodd
  obtain ⟨hline, hcycle⟩ := (position_eq_iff (ppuClock_rasterOk h.raster) (line := -1) (col := 0) (by decide)).mp
    (by rw [hposition]; decide)
  refine ⟨by simp [hcomplete], hline, hcycle, ?_⟩
  rw [hodd, if_pos rfl, h.odd]

/-- Settles O54: the step by `ppuClock_position`, the frame by induction over its steps. -/
theorem frameIs89342Steps : Obligations.FrameIs89342Steps := by
  intro s
  refine ⟨?_, fun hraster => ⟨ppuClock_rasterOk hraster, ppuClock_position hraster⟩, fun hline hcycle hcomplete => ?_⟩
  · rw [← skipOddFrame_eq, ppuClock_skip]
  · have hframe {n : Nat} (hn : n < frameLength s) := inFrame_ppuSteps hline hcycle hcomplete hn
    refine ⟨?_, fun n hn => ?_⟩
    · obtain ⟨m, hm⟩ : ∃ m, m + 1 = frameLength s :=
        ⟨frameLength s - 1, Nat.sub_add_cancel (by unfold frameLength; split <;> decide)⟩
      have hlast := (hframe (n := m) (by omega)).last hm
      rw [← ppuSteps_succ, hm] at hlast
      exact hlast
    · have h := hframe hn
      exact ⟨h.incomplete, h.odd, (rasterOk_iff.mp h.raster).1, h.position⟩

end Sys2Proof.Machine
end

section
/-! O55 and O58: the scroll register and the status flags by raster column (R401, R404, R412 to R418). `ColumnActs` says once
which parts of the pipeline run in which column; a column of a fetch window is `fetchColumn` by its phase. -/

namespace Sys2Proof.Machine

open Sys2Proof.Claim

/-! ### Which parts run in which column -/

/-- A column of a fetch window (R404). -/
abbrev inWindow (col : Nat) : Prop := (2 ≤ col ∧ col ≤ 257) ∨ (321 ≤ col ∧ col ≤ 337)

theorem fetchWindow_iff {p : Ppu} : fetchWindow p = true ↔ inWindow p.cycle := by
  simp only [fetchWindow, inWindow, Bool.or_eq_true, Bool.and_eq_true, decide_eq_true_eq]

theorem fetchLine_iff {p : Ppu} : fetchLine p = true ↔ -1 ≤ p.scanline ∧ p.scanline ≤ 239 := by
  simp only [fetchLine, Bool.and_eq_true, decide_eq_true_eq]

/-- What the pipeline makes of `s` in column `col` of line `line` (R401). -/
inductive ColumnActs (line : Int) (col : Nat) (s : State) : State → Prop
  | clear (hline : line = -1) (hcol : col = 1) : ColumnActs line col s (preRenderClear s)
  | fetch (hcol : inWindow col) (h256 : col ≠ 256) (h257 : col ≠ 257) : ColumnActs line col s (fetchColumn col s)
  | incrementY (hcol : col = 256) : ColumnActs line col s (incrementScrollY (fetchColumn col s))
  | transferX (hcol : col = 257) :
    ColumnActs line col s (transferAddressX (loadBackgroundShifters (fetchColumn col s)))
  | nametable (hcol : col = 338 ∨ col = 340) : ColumnActs line col s (fetchNametable s)
  | transferY (hline : line = -1) (hlow : 280 ≤ col) (hhigh : col ≤ 304) : ColumnActs line col s (transferAddressY s)
  | idle (hclear : ¬ (line = -1 ∧ col = 1)) (hcol : ¬ inWindow col) (hlast : ¬ (col = 338 ∨ col = 340))
    (hcopy : ¬ (line = -1 ∧ 280 ≤ col ∧ col ≤ 304)) : ColumnActs line col s s

theorem runIf_pos {c : Prop} [Decidable c] (h : c) (f : State → State) (s : State) : runIf c f s = f s := if_pos h

theorem runIf_neg {c : Prop} [Decidable c] (h : ¬ c) (f : State → State) (s : State) : runIf c f s = s := if_neg h

/-- The conditions of the pipeline's parts exclude each other, but that columns 256 and 257 lie in the first window. -/
theorem renderColumn_acts (line : Int) (col : Nat) (s : State) : ColumnActs line col s (renderColumn line col s) := by
  unfold renderColumn
  dsimp only
  by_cases hclear : line = -1 ∧ col = 1
  · rw [runIf_pos hclear, runIf_neg (by omega), runIf_neg (by omega), runIf_neg (by omega), runIf_neg (by omega),
      runIf_neg (by omega)]
    exact .clear hclear.1 hclear.2
  rw [runIf_neg hclear]
  by_cases hcol : inWindow col
  · rw [runIf_pos hcol]
    by_cases h256 : col = 256
    · rw [runIf_pos h256, runIf_neg (by omega), runIf_neg (by omega), runIf_neg (by omega)]
      exact .incrementY h256
    rw [runIf_neg h256]
    by_cases h257 : col = 257
    · rw [runIf_pos h257, runIf_neg (by omega), runIf_neg (by omega)]
      exact .transferX h257
    · rw [runIf_neg h257, runIf_neg (by omega), runIf_neg (by omega)]
      exact .fetch hcol h256 h257
  have h256 : ¬ col = 256 := by omega
  have h257 : ¬ col = 257 := by omega
  rw [runIf_neg hcol, runIf_neg h256, runIf_neg h257]
  by_cases hlast : col = 338 ∨ col = 340
  · rw [runIf_pos hlast, runIf_neg (by omega)]
    exact .nametable hlast
  rw [runIf_neg hlast]
  by_cases hcopy : line = -1 ∧ 280 ≤ col ∧ col ≤ 304
  · rw [runIf_pos hcopy]
    exact .transferY hcopy.1 hcopy.2.1 hcopy.2.2
  · rw [runIf_neg hcopy]
    exact .idle hclear hcol hlast hcopy

/-- On the lines of the pipeline a step's actions are those of its column (R403). -/
theorem rasterActions_fetchLine {s : State} (h : fetchLine s.ppu = true) :
    rasterActions s = renderColumn s.ppu.scanline s.ppu.cycle s := by
  obtain ⟨hlow, hhigh⟩ := fetchLine_iff.mp h
  unfold rasterActions
  dsimp only
  rw [runIf_neg (by omega), runIf_pos ⟨hlow, hhigh⟩]

/-- On the other lines the start of vblank is the one action (R416). -/
theorem rasterActions_otherLine {s : State} (h : ¬ fetchLine s.ppu = true) :
    rasterActions s = if s.ppu.scanline = 241 ∧ s.ppu.cycle = 1 then vblankStart s else s := by
  rw [fetchLine_iff] at h
  unfold rasterActions
  dsimp only
  rw [runIf_neg h]
  rfl

/-! ### A column of a fetch window -/

/-- The fetches and loads of a window's column, by the low bits of the column (R404). -/
theorem fetchColumn_eq {col : Nat} (h : 1 ≤ col) (s : State) :
    fetchColumn col s =
      match col % 8 with
      | 1 => fetchNametable (loadBackgroundShifters (updateShifters s))
      | 3 => fetchAttribute (updateShifters s)
      | 5 => fetchPatternLow (updateShifters s)
      | 7 => fetchPatternHigh (updateShifters s)
      | 0 => incrementScrollX (updateShifters s)
      | _ => updateShifters s := by
  have hphase : (col - 1) % 8 = (col % 8 + 7) % 8 := by omega
  have hlt : col % 8 < 8 := Nat.mod_lt _ (by decide)
  unfold fetchColumn
  dsimp only
  rw [hphase]
  generalize col % 8 = k at hlt ⊢
  interval_cases k <;> rfl

theorem inWindow_pos {col : Nat} (h : inWindow col) : 1 ≤ col := by
  omega

/-! ### The scroll register -/

/-- A scroll update in numbers: nothing while rendering is disabled (D22). -/
theorem scrollUpdate_v (f : Loopy → Loopy → Loopy) (s : State) :
    (scrollUpdate f s).ppu.v = if rendering s.ppu = true then f s.ppu.t s.ppu.v else s.ppu.v := by
  rw [← renderingEnabled_eq, scrollUpdate]
  split <;> rfl

theorem updateShifters_v (s : State) : (updateShifters s).ppu.v = s.ppu.v := by
  unfold updateShifters
  split <;> rfl

theorem PipelineOnly.rendering {t s : State} (h : PipelineOnly t s) : rendering t.ppu = rendering s.ppu := by
  unfold PipelineOnly at h
  rw [h]
  rfl

theorem PipelineOnly.t {t s : State} (h : PipelineOnly t s) : t.ppu.t = s.ppu.t := by
  unfold PipelineOnly at h
  rw [h]

/-- Inside a window coarse X goes up in the last column of every tile (R404, R412). -/
theorem fetchColumn_v {col : Nat} (h : 1 ≤ col) (s : State) :
    (fetchColumn col s).ppu.v =
      if rendering s.ppu = true ∧ col % 8 = 0 then scrollXNext s.ppu.v else s.ppu.v := by
  rw [fetchColumn_eq h]
  by_cases hphase : col % 8 = 0
  · rw [hphase]
    show (scrollUpdate _ _).ppu.v = _
    rw [scrollUpdate_v, updateShifters_v, (updateShifters_only s).rendering]
    simp only [and_true]
  · rw [if_neg (fun hh => hphase hh.2), ← updateShifters_v s]
    split
    · rfl
    · rfl
    · rfl
    · rfl
    · next h0 => exact absurd h0 hphase
    · rfl

theorem scrollXNext_toNat (v : Loopy) : (scrollXNext v).toNat = nextX v.toNat := by
  have hv := v.isLt
  have hwrap : coarseX v = 31#5 ↔ v.toNat % 32 = 31 := by
    rw [← BitVec.toNat_inj, coarseX_toNat]
    rfl
  unfold scrollXNext nextX
  by_cases hx : v.toNat % 32 = 31
  · rw [if_pos (hwrap.mpr hx), if_pos hx, withNametableX_toNat, withCoarseX_toNat, nametableX_eq]
    by_cases hn : v.toNat / 1024 % 2 = 1
    · rw [if_pos hn, decide_eq_true hn]
      simp only [BitVec.toNat_ofNat, Bool.not_true, Bool.toNat_false]
      omega
    · rw [if_neg hn, decide_eq_false hn]
      simp only [BitVec.toNat_ofNat, Bool.not_false, Bool.toNat_true]
      omega
  · rw [if_neg (hwrap.not.mpr hx), if_neg hx, withCoarseX_toNat, BitVec.toNat_add, coarseX_toNat]
    simp only [BitVec.toNat_ofNat]
    omega

theorem scrollYNext_toNat (v : Loopy) : (scrollYNext v).toNat = nextY v.toNat := by
  have hv := v.isLt
  have hfine : fineY v ≠ 7#3 ↔ v.toNat / 4096 < 7 := by
    rw [Ne, ← BitVec.toNat_inj, fineY_toNat]
    show ¬ v.toNat / 4096 = 7 ↔ _
    omega
  have hcoarse (n : Nat) (hn : n < 32) : coarseY v = BitVec.ofNat 5 n ↔ v.toNat / 32 % 32 = n := by
    rw [← BitVec.toNat_inj, coarseY_toNat, BitVec.toNat_ofNat, Nat.mod_eq_of_lt (show n < 2 ^ 5 from hn)]
  unfold scrollYNext nextY
  by_cases h7 : v.toNat / 4096 < 7
  · rw [if_pos (hfine.mpr h7), if_pos h7, withFineY_toNat, BitVec.toNat_add, fineY_toNat]
    simp only [BitVec.toNat_ofNat]
    omega
  rw [if_neg (hfine.not.mpr h7), if_neg h7]
  have hlow : (v.toNat - 7 * 4096) / 32 % 32 = v.toNat / 32 % 32 := by omega
  have hbank : (v.toNat - 7 * 4096) / 2048 % 2 = v.toNat / 2048 % 2 := by omega
  dsimp only
  rw [hlow, hbank]
  by_cases h29 : v.toNat / 32 % 32 = 29
  · rw [if_pos ((hcoarse 29 (by decide)).mpr h29), if_pos h29, withNametableY_toNat, withCoarseY_toNat,
      withFineY_toNat, nametableY_eq]
    by_cases hn : v.toNat / 2048 % 2 = 1
    · rw [if_pos hn, decide_eq_true hn]
      simp only [BitVec.toNat_ofNat, Bool.not_true, Bool.toNat_false]
      omega
    · rw [if_neg hn, decide_eq_false hn]
      simp only [BitVec.toNat_ofNat, Bool.not_false, Bool.toNat_true]
      omega
  rw [if_neg ((hcoarse 29 (by decide)).not.mpr h29), if_neg h29]
  by_cases h31 : v.toNat / 32 % 32 = 31
  · rw [if_pos ((hcoarse 31 (by decide)).mpr h31), if_pos h31, withCoarseY_toNat, withFineY_toNat]
    simp only [BitVec.toNat_ofNat]
    omega
  · rw [if_neg ((hcoarse 31 (by decide)).not.mpr h31), if_neg h31, withCoarseY_toNat, withFineY_toNat,
      BitVec.toNat_add, coarseY_toNat]
    simp only [BitVec.toNat_ofNat]
    omega

theorem copyHorizontal_toNat (t v : Loopy) : (copyHorizontal t v).toNat = copyX t.toNat v.toNat := by
  have ht := t.isLt
  have hv := v.isLt
  rw [copyHorizontal, withNametableX_toNat, withCoarseX_toNat, coarseX_toNat, nametableX_eq, bool_toNat_decide, copyX]
  omega

theorem copyVertical_toNat (t v : Loopy) : (copyVertical t v).toNat = copyY t.toNat v.toNat := by
  have ht := t.isLt
  have hv := v.isLt
  rw [copyVertical, withCoarseY_toNat, withNametableY_toNat, withFineY_toNat, coarseY_toNat, fineY_toNat, nametableY_eq,
    bool_toNat_decide, copyY]
  omega

/-- The scroll register after a column of the pipeline, while rendering is enabled (R412 to R415). -/
theorem renderColumn_v {s : State} (hr : rendering s.ppu = true) (line : Int) (col : Nat) :
    (renderColumn line col s).ppu.v =
      if col = 256 then scrollYNext (scrollXNext s.ppu.v)
      else if col % 8 = 0 ∧ inWindow col then scrollXNext s.ppu.v
      else if col = 257 then copyHorizontal s.ppu.t s.ppu.v
      else if line = -1 ∧ 280 ≤ col ∧ col ≤ 304 then copyVertical s.ppu.t s.ppu.v
      else s.ppu.v := by
  have hscroll (f : Loopy → Loopy → Loopy) {t : State} (ht : PipelineOnly t s) :
      (scrollUpdate f t).ppu.v = f s.ppu.t t.ppu.v := by
    rw [scrollUpdate_v, ht.rendering, if_pos hr, ht.t]
  have hacts := renderColumn_acts line col s
  generalize renderColumn line col s = r at hacts ⊢
  cases hacts with
  | clear hline hcol =>
    subst hcol
    rw [if_neg (by decide), if_neg (fun h => absurd h.1 (by decide)), if_neg (by decide), if_neg (by omega)]
    rfl
  | fetch hcol h256 h257 =>
    have hline : ¬ (line = -1 ∧ 280 ≤ col ∧ col ≤ 304) := by
      omega
    rw [if_neg h256, if_neg h257, if_neg hline, fetchColumn_v (inWindow_pos hcol)]
    exact if_congr (by simp only [hr, hcol, true_and, and_true]) rfl rfl
  | incrementY hcol =>
    subst hcol
    show (scrollUpdate _ _).ppu.v = _
    rw [hscroll _ (fetchColumn_only 256 s), fetchColumn_v (by decide), if_pos ⟨hr, rfl⟩, if_pos rfl]
  | transferX hcol =>
    subst hcol
    show (scrollUpdate _ _).ppu.v = _
    rw [hscroll _ (.trans (loadBackgroundShifters_only _) (fetchColumn_only 257 s)), if_neg (by decide),
      if_neg (fun h => absurd h.1 (by decide)), if_pos rfl]
    show copyHorizontal _ (fetchColumn 257 s).ppu.v = _
    rw [fetchColumn_v (by decide), if_neg (fun h => absurd h.2 (by decide))]
  | nametable hcol =>
    have hwindow : ¬ inWindow col := by omega
    rw [if_neg (by omega), if_neg (fun h => hwindow h.2), if_neg (by omega), if_neg (by omega)]
    rfl
  | transferY hline hlow hhigh =>
    have hwindow : ¬ inWindow col := by omega
    rw [if_neg (by omega), if_neg (fun h => hwindow h.2), if_neg (by omega), if_pos ⟨hline, hlow, hhigh⟩]
    exact hscroll _ (.refl s)
  | idle hclear hcol hlast hcopy =>
    have h256 : ¬ (col = 256 ∨ col = 257) := by
      omega
    rw [if_neg (fun h => h256 (.inl h)), if_neg (fun h => hcol h.2), if_neg (fun h => h256 (.inr h)), if_neg hcopy]

theorem scrollUpdate_disabled {s : State} (hr : rendering s.ppu = false) (f : Loopy → Loopy → Loopy) :
    scrollUpdate f s = s := by
  rw [scrollUpdate, renderingEnabled_eq, if_neg (ne_true_of_eq_false hr)]

/-- With rendering disabled the pipeline leaves the scroll register alone (D22). -/
theorem renderColumn_v_disabled {s : State} (hr : rendering s.ppu = false) (line : Int) (col : Nat) :
    (renderColumn line col s).ppu.v = s.ppu.v := by
  have hfetch (h : 1 ≤ col) : (fetchColumn col s).ppu.v = s.ppu.v := by
    rw [fetchColumn_v h, if_neg (fun h => ne_true_of_eq_false hr h.1)]
  have hacts := renderColumn_acts line col s
  generalize renderColumn line col s = r at hacts ⊢
  cases hacts with
  | clear => rfl
  | fetch hcol => exact hfetch (inWindow_pos hcol)
  | incrementY hcol =>
    rw [incrementScrollY, scrollUpdate_disabled ((fetchColumn_only col s).rendering.trans hr)]
    exact hfetch (by omega)
  | transferX hcol =>
    have honly := (loadBackgroundShifters_only _).trans (fetchColumn_only col s)
    rw [transferAddressX, scrollUpdate_disabled (honly.rendering.trans hr)]
    exact hfetch (by omega)
  | nametable => rfl
  | transferY => rw [transferAddressY, scrollUpdate_disabled hr]
  | idle => rfl

/-- The scroll register after the actions of a step. -/
theorem rasterActions_v (s : State) :
    (rasterActions s).ppu.v =
      if rendering s.ppu = true ∧ fetchLine s.ppu = true then (renderColumn s.ppu.scanline s.ppu.cycle s).ppu.v
      else s.ppu.v := by
  by_cases hline : fetchLine s.ppu = true
  · rw [rasterActions_fetchLine hline]
    by_cases hr : rendering s.ppu = true
    · rw [if_pos ⟨hr, hline⟩]
    · rw [if_neg (fun h => hr h.1), renderColumn_v_disabled (eq_false_of_ne_true hr)]
  · rw [if_neg (fun h => hline h.2), rasterActions_otherLine hline]
    split <;> rfl

/-- Settles O55. -/
theorem scrollByColumn : Obligations.ScrollByColumn := by
  intro s
  dsimp only
  have hclock : (ppuClock s).ppu.v = (rasterActions (skipOddFrame s)).ppu.v :=
    congrArg (fun t => t.ppu.v) (ppuClock_actions s)
  rw [hclock, rasterActions_v, skipOddFrame_ppu]
  by_cases hr : rendering (afterSkip s) = true ∧ fetchLine (afterSkip s) = true
  · have hstate : rendering (skipOddFrame s).ppu = true := by
      rw [skipOddFrame_ppu]
      exact hr.1
    rw [if_pos hr, if_pos hr, renderColumn_v hstate, skipOddFrame_ppu]
    simp only [fetchWindow_iff, ← scrollXNext_toNat, ← scrollYNext_toNat, ← copyHorizontal_toNat,
      ← copyVertical_toNat, BitVec.ofNat_toNat, BitVec.setWidth_eq]
  · rw [if_neg hr, if_neg hr]

/-! ### The status flags and the NMI request -/

/-- The status register and the NMI request of `t` are those of `s`. -/
def FlagsKept (t s : State) : Prop := t.ppu.status = s.ppu.status ∧ t.ppu.nmi = s.ppu.nmi

theorem FlagsKept.trans {a b c : State} (h : FlagsKept a b) (h' : FlagsKept b c) : FlagsKept a c :=
  ⟨h.1.trans h'.1, h.2.trans h'.2⟩

theorem scrollUpdate_flags (f : Loopy → Loopy → Loopy) (s : State) : FlagsKept (scrollUpdate f s) s := by
  unfold scrollUpdate
  split <;> exact ⟨rfl, rfl⟩

theorem updateShifters_flags (s : State) : FlagsKept (updateShifters s) s := by
  unfold updateShifters
  split <;> exact ⟨rfl, rfl⟩

theorem fetchColumn_flags (col : Nat) (s : State) : FlagsKept (fetchColumn col s) s := by
  refine .trans ?_ (updateShifters_flags s)
  unfold fetchColumn
  dsimp only
  split
  · exact ⟨rfl, rfl⟩
  · exact ⟨rfl, rfl⟩
  · exact ⟨rfl, rfl⟩
  · exact ⟨rfl, rfl⟩
  · exact scrollUpdate_flags _ _
  · exact ⟨rfl, rfl⟩

/-- The pipeline clears the flags at (-1, 1) and else leaves them alone (R418, R424). -/
theorem renderColumn_flags (line : Int) (col : Nat) (s : State) :
    (renderColumn line col s).ppu.status =
        (if line = -1 ∧ col = 1 then s.ppu.status &&& 0x1F#8 else s.ppu.status) ∧
      (renderColumn line col s).ppu.nmi = s.ppu.nmi := by
  have hkept {t : State} (h : ¬ (line = -1 ∧ col = 1)) (ht : FlagsKept t s) :
      t.ppu.status = (if line = -1 ∧ col = 1 then s.ppu.status &&& 0x1F#8 else s.ppu.status) ∧
        t.ppu.nmi = s.ppu.nmi := by
    rw [if_neg h]
    exact ht
  have hacts := renderColumn_acts line col s
  generalize renderColumn line col s = r at hacts ⊢
  cases hacts with
  | clear hline hcol =>
    rw [if_pos ⟨hline, hcol⟩]
    exact ⟨rfl, rfl⟩
  | fetch hcol => exact hkept (by omega) (fetchColumn_flags col s)
  | incrementY hcol => exact hkept (by omega) ((scrollUpdate_flags _ _).trans (fetchColumn_flags col s))
  | transferX hcol => exact hkept (by omega) ((scrollUpdate_flags _ _).trans (fetchColumn_flags col s))
  | nametable hcol => exact hkept (by omega) ⟨rfl, rfl⟩
  | transferY hline hlow => exact hkept (by omega) (scrollUpdate_flags _ s)
  | idle hclear => exact hkept hclear ⟨rfl, rfl⟩

/-- The flags after the actions of a step (R416, R418). -/
theorem rasterActions_flags (s : State) :
    (rasterActions s).ppu.status =
        (if s.ppu.scanline = 241 ∧ s.ppu.cycle = 1 then s.ppu.status ||| 0x80#8
          else if s.ppu.scanline = -1 ∧ s.ppu.cycle = 1 then s.ppu.status &&& 0x1F#8 else s.ppu.status) ∧
      (rasterActions s).ppu.nmi =
        (s.ppu.nmi || (decide (s.ppu.scanline = 241 ∧ s.ppu.cycle = 1) && s.ppu.enableNmi)) := by
  by_cases hline : fetchLine s.ppu = true
  · have hline241 : ¬ s.ppu.scanline = 241 := by
      obtain ⟨-, hhigh⟩ := fetchLine_iff.mp hline
      omega
    have hblank : ¬ (s.ppu.scanline = 241 ∧ s.ppu.cycle = 1) := fun h => hline241 h.1
    rw [rasterActions_fetchLine hline, if_neg hblank, decide_eq_false hblank, Bool.false_and, Bool.or_false]
    exact renderColumn_flags _ _ s
  · have hpre : ¬ (s.ppu.scanline = -1 ∧ s.ppu.cycle = 1) := by
      rw [fetchLine_iff] at hline
      omega
    rw [rasterActions_otherLine hline, if_neg hpre]
    by_cases hblank : s.ppu.scanline = 241 ∧ s.ppu.cycle = 1
    · rw [if_pos hblank, if_pos hblank, decide_eq_true hblank, Bool.true_and]
      exact ⟨rfl, rfl⟩
    · rw [if_neg hblank, if_neg hblank, decide_eq_false hblank, Bool.false_and, Bool.or_false]
      exact ⟨rfl, rfl⟩

/-- The skip moves no position at which a flag changes. -/
theorem afterSkip_position_iff (s : State) {line : Int} (h : line ≠ 0) :
    ((afterSkip s).scanline = line ∧ (afterSkip s).cycle = 1) ↔ (s.ppu.scanline = line ∧ s.ppu.cycle = 1) := by
  by_cases hline : s.ppu.scanline = 0
  · have hskip : (afterSkip s).scanline = 0 := hline
    omega
  · rw [afterSkip_of_scanline_ne hline]

/-- Settles O58. -/
theorem vblankFlagByColumn : Obligations.VblankFlagByColumn := by
  intro s
  have henable : (afterSkip s).enableNmi = decide (128 ≤ s.ppu.ctrl.toNat) := by
    have hctrl := s.ppu.ctrl.isLt
    show s.ppu.ctrl.getLsbD 7 = _
    rw [getLsbD_eq_decide]
    exact decide_eq_decide.mpr (by omega)
  have hflags := rasterActions_flags (skipOddFrame s)
  simp only [skipOddFrame_ppu, afterSkip_position_iff s (line := 241) (by decide),
    afterSkip_position_iff s (line := -1) (by decide), henable] at hflags
  dsimp only
  rw [ppuClock_actions, ← Bool.decide_and]
  exact hflags

end Sys2Proof.Machine
end

section
/-! O56: the background pipeline by raster column (R404 to R411, R417). The four latches and the four shifters are each a
family of registers with one law. -/

namespace Sys2Proof.Machine

open Sys2Proof.Claim

/-! ### The addresses of the fetches in numbers -/

/-- The address of `FetchNametable()` (R406). -/
theorem nametableAddress_eq (v : Loopy) : nametableAddress v = BitVec.ofNat 14 (0x2000 + v.toNat % 4096) := by
  refine eq_ofNat_of_toNat ?_
  have hlow : (v &&& 0x0FFF#15).toNat = v.toNat % 4096 := toNat_and_lowMask v 12 rfl
  rw [nametableAddress, BitVec.toNat_or, BitVec.toNat_setWidth, hlow, Nat.mod_eq_of_lt (by omega)]
  exact (Nat.two_pow_add_eq_or_of_lt (i := 12) (Nat.mod_lt _ (by decide)) 2).symm

/-- The address of `FetchAttribute()` (R407). -/
theorem attributeAddress_eq (v : Loopy) : attributeAddress v = attributeByteAddress v.toNat := by
  refine eq_ofNat_of_toNat ?_
  have hbank : ∀ y x : Bool, (0x23C0#14 ||| (bit14 y <<< 11) ||| (bit14 x <<< 10)).toNat =
      2 ^ 6 * (143 + 32 * y.toNat + 16 * x.toNat) := by decide
  have hrow : (((coarseY v >>> 2).setWidth 14 <<< 3 : PpuAddr)).toNat = 2 ^ 3 * (v.toNat / 128 % 8) := by
    rw [BitVec.toNat_shiftLeft, BitVec.toNat_setWidth, BitVec.toNat_ushiftRight, coarseY_toNat, Nat.shiftRight_eq_div_pow,
      Nat.shiftLeft_eq]
    omega
  have hcol : ((coarseX v >>> 2).setWidth 14 : PpuAddr).toNat = v.toNat / 4 % 8 := by
    rw [BitVec.toNat_setWidth, BitVec.toNat_ushiftRight, coarseX_toNat, Nat.shiftRight_eq_div_pow]
    omega
  rw [attributeAddress, BitVec.toNat_or, BitVec.toNat_or, hbank, hrow, hcol, Nat.or_assoc,
    ← Nat.two_pow_add_eq_or_of_lt (by omega : v.toNat / 4 % 8 < 2 ^ 3),
    ← Nat.two_pow_add_eq_or_of_lt (by omega : 2 ^ 3 * (v.toNat / 128 % 8) + v.toNat / 4 % 8 < 2 ^ 6), nametableY_eq,
    nametableX_eq, bool_toNat_decide, bool_toNat_decide]
  omega

/-- The two bits of a quadrant (R407). -/
theorem attributeBits_eq (v : Loopy) (a : Byte) : attributeBits v a = quadrantBits v.toNat a := by
  have hy : (coarseY v).getLsbD 1 = true ↔ v.toNat / 64 % 2 = 1 := by
    rw [getLsbD_eq_decide, coarseY_toNat, decide_eq_true_eq]
    omega
  have hx : (coarseX v).getLsbD 1 = true ↔ v.toNat / 2 % 2 = 1 := by
    rw [getLsbD_eq_decide, coarseX_toNat, decide_eq_true_eq]
    omega
  have hbits (n : Nat) : (a >>> n) &&& 0x03#8 = BitVec.ofNat 8 (a.toNat / 2 ^ n % 4) := by
    refine eq_ofNat_of_toNat ?_
    rw [toNat_and_lowMask _ 2 rfl, BitVec.toNat_ushiftRight, Nat.shiftRight_eq_div_pow]
    rfl
  unfold attributeBits quadrantBits
  simp only [hy, hx]
  rcases Nat.mod_two_eq_zero_or_one (v.toNat / 64) with h64 | h64 <;>
    rcases Nat.mod_two_eq_zero_or_one (v.toNat / 2) with h2 | h2 <;>
    rw [h64, h2, ← hbits]
  · simp
  · simp
  · simp
  · simp [← BitVec.shiftRight_add]

/-- The address of `FetchPatternLow()` (R408). -/
theorem patternAddress_eq (p : Ppu) : patternAddress p = BitVec.ofNat 14 (patternRowAddress p) := by
  refine eq_ofNat_of_toNat ?_
  have hv := p.v.isLt
  have hid := p.bgNextTileId.isLt
  have htable : ∀ b : Bool, (bit14 b <<< 12 : PpuAddr).toNat = 4096 * b.toNat := by decide
  have hbit : p.patternBackground.toNat = p.ctrl.toNat / 16 % 2 := by
    rw [Ppu.patternBackground, getLsbD_eq_decide]
    exact bool_toNat_decide _ _
  rw [patternAddress, BitVec.toNat_add, BitVec.toNat_add, htable, hbit, BitVec.toNat_shiftLeft, BitVec.toNat_setWidth,
    BitVec.toNat_setWidth, fineY_toNat, Nat.shiftLeft_eq, patternRowAddress]
  omega

/-- The address of `FetchPatternHigh()` (R409). -/
theorem patternAddress_high_eq (p : Ppu) : patternAddress p + 8#14 = BitVec.ofNat 14 (patternRowAddress p + 8) := by
  rw [patternAddress_eq, BitVec.ofNat_add]

/-! ### The four latches -/

/-- The latches of the next tile (R43). -/
inductive Latch where
  | tileId | attrib | patternLow | patternHigh

/-- What a latch holds. -/
def Latch.get : Latch → Ppu → Byte
  | .tileId, p => p.bgNextTileId
  | .attrib, p => p.bgNextTileAttrib
  | .patternLow, p => p.bgNextTileLsb
  | .patternHigh, p => p.bgNextTileMsb

/-- The low bits of the columns in which a latch is fetched (R404). -/
def Latch.phase : Latch → Nat
  | .tileId => 1
  | .attrib => 3
  | .patternLow => 5
  | .patternHigh => 7

/-- The columns in which a latch is fetched: at its phase in a window, and the tile id twice more at the end of a line
(R404, R405, R417). -/
abbrev Latch.fetchedAt (l : Latch) (col : Nat) : Prop :=
  (col % 8 = l.phase ∧ inWindow col) ∨ (l.phase = 1 ∧ (col = 338 ∨ col = 340))

/-- The byte a latch fetches (R406 to R409). -/
def Latch.fetched : Latch → State → Byte
  | .tileId, s => ppuRead (nametableAddress s.ppu.v) s
  | .attrib, s => attributeBits s.ppu.v (ppuRead (attributeAddress s.ppu.v) s)
  | .patternLow, s => ppuRead (patternAddress s.ppu) s
  | .patternHigh, s => ppuRead (patternAddress s.ppu + 8#14) s

/-- A shift moves no latch and nothing a fetch reads. -/
theorem Latch.updateShifters (l : Latch) (s : State) :
    l.get (updateShifters s).ppu = l.get s.ppu ∧ l.fetched (updateShifters s) = l.fetched s := by
  unfold Machine.updateShifters
  split
  · cases l <;> exact ⟨rfl, rfl⟩
  · exact ⟨rfl, rfl⟩

theorem Latch.get_scrollUpdate (l : Latch) (f : Loopy → Loopy → Loopy) (s : State) :
    l.get (scrollUpdate f s).ppu = l.get s.ppu := by
  unfold scrollUpdate
  split
  · cases l <;> rfl
  · rfl

theorem Latch.get_loadBackgroundShifters (l : Latch) (s : State) :
    l.get (loadBackgroundShifters s).ppu = l.get s.ppu := by cases l <;> rfl

/-- A latch after a column of a window: fetched at its phase (R404). -/
theorem Latch.get_fetchColumn (l : Latch) {col : Nat} (h : 1 ≤ col) (s : State) :
    l.get (fetchColumn col s).ppu = if col % 8 = l.phase then l.fetched s else l.get s.ppu := by
  obtain ⟨hget, hfetched⟩ := l.updateShifters s
  rw [fetchColumn_eq h, ← hget, ← hfetched]
  split
  · next hphase => rw [hphase]; cases l <;> rfl
  · next hphase => rw [hphase]; cases l <;> rfl
  · next hphase => rw [hphase]; cases l <;> rfl
  · next hphase => rw [hphase]; cases l <;> rfl
  · next hphase =>
    rw [hphase, if_neg (by cases l <;> decide)]
    exact l.get_scrollUpdate _ _
  · next h1 h3 h5 h7 _ =>
    rw [if_neg]
    cases l
    · exact h1
    · exact h3
    · exact h5
    · exact h7

/-- A latch after a column of the pipeline. -/
theorem Latch.get_renderColumn (l : Latch) (line : Int) (col : Nat) (s : State) :
    l.get (renderColumn line col s).ppu = if l.fetchedAt col then l.fetched s else l.get s.ppu := by
  have hwindow (h : inWindow col) :
      l.get (fetchColumn col s).ppu = if l.fetchedAt col then l.fetched s else l.get s.ppu := by
    rw [l.get_fetchColumn (inWindow_pos h)]
    exact if_congr (by omega) rfl rfl
  have hother (h : ¬ inWindow col) (hlast : ¬ (col = 338 ∨ col = 340)) :
      l.get s.ppu = if l.fetchedAt col then l.fetched s else l.get s.ppu := (if_neg (by omega)).symm
  have hacts := renderColumn_acts line col s
  generalize renderColumn line col s = r at hacts ⊢
  cases hacts with
  | clear hline hcol =>
    rw [← hother (by omega) (by omega)]
    cases l <;> rfl
  | fetch hcol => exact hwindow hcol
  | incrementY hcol => exact (l.get_scrollUpdate _ _).trans (hwindow (by omega))
  | transferX hcol =>
    exact (l.get_scrollUpdate _ _).trans ((l.get_loadBackgroundShifters _).trans (hwindow (by omega)))
  | nametable hcol =>
    cases l with
    | tileId => exact (if_pos (.inr ⟨rfl, hcol⟩)).symm
    | attrib | patternLow | patternHigh => exact (if_neg (by simp only [Latch.fetchedAt, Latch.phase]; omega)).symm
  | transferY hline hlow hhigh => exact (l.get_scrollUpdate _ s).trans (hother (by omega) (by omega))
  | idle hclear hcol hlast => exact hother hcol hlast

/-! ### The four shifters -/

/-- The shifters of the pipeline (R43). -/
inductive Shifter where
  | patternLo | patternHi | attribLo | attribHi

/-- What a shifter holds. -/
def Shifter.get : Shifter → Ppu → Word
  | .patternLo, p => p.bgShifterPatternLo
  | .patternHi, p => p.bgShifterPatternHi
  | .attribLo, p => p.bgShifterAttribLo
  | .attribHi, p => p.bgShifterAttribHi

/-- The byte a shifter loads (R410). -/
def Shifter.loaded : Shifter → Ppu → Byte
  | .patternLo, p => p.bgNextTileLsb
  | .patternHi, p => p.bgNextTileMsb
  | .attribLo, p => spread (p.bgNextTileAttrib.getLsbD 0)
  | .attribHi, p => spread (p.bgNextTileAttrib.getLsbD 1)

/-- A shifter after `UpdateShifters()` (R411). -/
def shiftedWord (p : Ppu) (w : Word) : Word := if p.renderBackground then w <<< 1 else w

theorem Shifter.updateShifters (k : Shifter) (s : State) :
    k.get (updateShifters s).ppu = shiftedWord s.ppu (k.get s.ppu) ∧
      k.loaded (updateShifters s).ppu = k.loaded s.ppu := by
  unfold Machine.updateShifters shiftedWord
  by_cases h : s.ppu.renderBackground = true
  · rw [if_pos h, if_pos h]
    cases k <;> exact ⟨rfl, rfl⟩
  · rw [if_neg h, if_neg h]
    exact ⟨rfl, rfl⟩

theorem Shifter.get_scrollUpdate (k : Shifter) (f : Loopy → Loopy → Loopy) (s : State) :
    k.get (scrollUpdate f s).ppu = k.get s.ppu := by
  unfold scrollUpdate
  split
  · cases k <;> rfl
  · rfl

theorem Shifter.loadBackgroundShifters (k : Shifter) (s : State) :
    k.get (loadBackgroundShifters s).ppu = loadLow (k.get s.ppu) (k.loaded s.ppu) := by cases k <;> rfl

/-- A shifter after a column of a window: shifted, and loaded in the first column of a tile (R404, R410, R411). -/
theorem Shifter.get_fetchColumn (k : Shifter) {col : Nat} (h : 1 ≤ col) (s : State) :
    k.get (fetchColumn col s).ppu =
      if col % 8 = 1 then loadLow (shiftedWord s.ppu (k.get s.ppu)) (k.loaded s.ppu)
      else shiftedWord s.ppu (k.get s.ppu) := by
  obtain ⟨hget, hloaded⟩ := k.updateShifters s
  rw [fetchColumn_eq h, ← hget, ← hloaded]
  split
  · next hphase =>
    rw [if_pos hphase, ← k.loadBackgroundShifters]
    cases k <;> rfl
  · next hphase => rw [hphase]; cases k <;> rfl
  · next hphase => rw [hphase]; cases k <;> rfl
  · next hphase => rw [hphase]; cases k <;> rfl
  · next hphase => rw [hphase]; exact k.get_scrollUpdate _ _
  · next h1 _ _ _ _ => rw [if_neg h1]

/-- Loading the same byte again changes nothing (column 257). -/
theorem loadLow_loadLow (w : Word) (b : Byte) : loadLow (loadLow w b) b = loadLow w b := by
  have hkeep : b.setWidth 16 &&& 0xFF00#16 = 0#16 := by revert b; decide
  rw [loadLow, loadLow, BitVec.and_or_distrib_right, hkeep, BitVec.or_zero, BitVec.and_assoc, BitVec.and_self]

/-- A shifter after a column of the pipeline. -/
theorem Shifter.get_renderColumn (k : Shifter) (line : Int) (col : Nat) (s : State) :
    k.get (renderColumn line col s).ppu =
      if inWindow col then
        if col % 8 = 1 then loadLow (shiftedWord s.ppu (k.get s.ppu)) (k.loaded s.ppu) else shiftedWord s.ppu (k.get s.ppu)
      else k.get s.ppu := by
  have hacts := renderColumn_acts line col s
  generalize renderColumn line col s = r at hacts ⊢
  cases hacts with
  | clear hline hcol =>
    rw [if_neg (by omega)]
    cases k <;> rfl
  | fetch hcol => rw [if_pos hcol, k.get_fetchColumn (inWindow_pos hcol)]
  | incrementY hcol =>
    rw [if_pos (by omega), incrementScrollY, k.get_scrollUpdate, k.get_fetchColumn (by omega)]
  | transferX hcol =>
    have hloaded : k.loaded (fetchColumn col s).ppu = k.loaded s.ppu := by
      have hphase : col % 8 = 1 := by omega
      rw [← (k.updateShifters s).2, fetchColumn_eq (by omega), hphase]
      cases k <;> rfl
    rw [if_pos (by omega), transferAddressX, k.get_scrollUpdate, k.loadBackgroundShifters, hloaded,
      k.get_fetchColumn (by omega), if_pos (by omega), loadLow_loadLow]
  | nametable hcol =>
    rw [if_neg (by omega)]
    cases k <;> rfl
  | transferY hline hlow hhigh =>
    rw [if_neg (by omega)]
    exact k.get_scrollUpdate _ s
  | idle hclear hcol => rw [if_neg hcol]

/-! ### The shifters in numbers -/

theorem renderBackground_iff (p : Ppu) : p.renderBackground = true ↔ p.mask.toNat / 8 % 2 = 1 := by
  rw [Ppu.renderBackground, getLsbD_eq_decide, decide_eq_true_eq]
  exact Iff.rfl

theorem shiftedWord_toNat (p : Ppu) (w : Word) :
    (shiftedWord p w).toNat = if p.mask.toNat / 8 % 2 = 1 then w.toNat * 2 % 65536 else w.toNat := by
  unfold shiftedWord
  simp only [renderBackground_iff]
  split
  · rw [BitVec.toNat_shiftLeft, Nat.shiftLeft_eq]
  · rfl

theorem loadLow_toNat (w : Word) (b : Byte) : (loadLow w b).toNat = w.toNat / 256 * 256 + b.toNat := by
  have hhigh : w &&& 0xFF00#16 = w >>> 8 <<< 8 := by
    ext i hi
    interval_cases i <;> simp
  have hw := w.isLt
  have hb : (b.setWidth 16).toNat = b.toNat := by
    rw [BitVec.toNat_setWidth]
    omega
  have hshift : (w >>> 8 <<< 8).toNat = 2 ^ 8 * (w.toNat / 256) := by
    rw [BitVec.toNat_shiftLeft, BitVec.toNat_ushiftRight, Nat.shiftRight_eq_div_pow, Nat.shiftLeft_eq]
    omega
  rw [loadLow, hhigh, BitVec.toNat_or, hshift, hb, ← Nat.two_pow_add_eq_or_of_lt b.isLt]
  omega

/-- The shifter the statements give, from shift and load (R410, R411). -/
theorem shifterNext_eq (p : Ppu) (w : Word) (b : Byte) :
    shifterNext p w b =
      if inWindow p.cycle then if p.cycle % 8 = 1 then loadLow (shiftedWord p w) b else shiftedWord p w else w := by
  unfold shifterNext
  by_cases hwindow : inWindow p.cycle
  · simp only [fetchWindow_iff, hwindow, true_and, if_true, ← shiftedWord_toNat]
    split
    · exact (eq_ofNat_of_toNat (loadLow_toNat _ b)).symm
    · exact (eq_ofNat_of_toNat rfl).symm
  · simp only [fetchWindow_iff, hwindow, false_and, if_false]
    exact (eq_ofNat_of_toNat rfl).symm

/-! ### The statement -/

theorem ppuRead_skipOddFrame (a : PpuAddr) (s : State) : ppuRead a (skipOddFrame s) = ppuRead a s := by
  rw [skipOddFrame_eq]
  rfl

section

variable {s : State} (hline : fetchLine s.ppu = true)
include hline

/-- On a line of the pipeline the actions are those of the column the skip leaves. -/
theorem rasterActions_skipOddFrame :
    rasterActions (skipOddFrame s) = renderColumn (afterSkip s).scanline (afterSkip s).cycle (skipOddFrame s) := by
  rw [rasterActions_fetchLine, skipOddFrame_ppu]
  rw [skipOddFrame_ppu]
  exact hline

/-- A latch after a PPU step. -/
theorem Latch.get_ppuClock (l : Latch) :
    l.get (ppuClock s).ppu =
      if l.fetchedAt (afterSkip s).cycle then l.fetched (skipOddFrame s) else l.get (afterSkip s) := by
  have hcolumn := l.get_renderColumn (afterSkip s).scanline (afterSkip s).cycle (skipOddFrame s)
  rw [← rasterActions_skipOddFrame hline, skipOddFrame_ppu] at hcolumn
  rw [← hcolumn, ppuClock_actions]
  cases l <;> rfl

/-- A shifter after a PPU step. -/
theorem Shifter.get_ppuClock (k : Shifter) :
    k.get (ppuClock s).ppu = shifterNext (afterSkip s) (k.get (afterSkip s)) (k.loaded (afterSkip s)) := by
  have hcolumn := k.get_renderColumn (afterSkip s).scanline (afterSkip s).cycle (skipOddFrame s)
  rw [← rasterActions_skipOddFrame hline, skipOddFrame_ppu, ← shifterNext_eq] at hcolumn
  rw [← hcolumn, ppuClock_actions]
  cases k <;> rfl

end

/-- Settles O56, by the law of a latch and the law of a shifter. -/
theorem backgroundPipelineByColumn : Obligations.BackgroundPipelineByColumn := by
  intro s hline
  have hphase (k : Nat) : ((decide ((afterSkip s).cycle % 8 = k) && fetchWindow (afterSkip s)) = true) ↔
      (afterSkip s).cycle % 8 = k ∧ inWindow (afterSkip s).cycle := by
    rw [Bool.and_eq_true, decide_eq_true_eq, fetchWindow_iff]
  refine ⟨?_, ?_, ?_, ?_, Shifter.patternLo.get_ppuClock hline, Shifter.patternHi.get_ppuClock hline,
    Shifter.attribLo.get_ppuClock hline, Shifter.attribHi.get_ppuClock hline⟩
  · refine (Latch.tileId.get_ppuClock hline).trans (if_congr ?_ ?_ rfl)
    · simp only [hphase, Latch.fetchedAt, Latch.phase, true_and]
    · rw [Latch.fetched, ppuRead_skipOddFrame, skipOddFrame_ppu, nametableAddress_eq]
  · refine (Latch.attrib.get_ppuClock hline).trans (if_congr ?_ ?_ rfl)
    · simp [hphase, Latch.fetchedAt, Latch.phase]
    · rw [Latch.fetched, ppuRead_skipOddFrame, skipOddFrame_ppu, attributeAddress_eq, attributeBits_eq]
  · refine (Latch.patternLow.get_ppuClock hline).trans (if_congr ?_ ?_ rfl)
    · simp [hphase, Latch.fetchedAt, Latch.phase]
    · rw [Latch.fetched, ppuRead_skipOddFrame, skipOddFrame_ppu, patternAddress_eq]
  · refine (Latch.patternHigh.get_ppuClock hline).trans (if_congr ?_ ?_ rfl)
    · simp [hphase, Latch.fetchedAt, Latch.phase]
    · rw [Latch.fetched, ppuRead_skipOddFrame, skipOddFrame_ppu, patternAddress_high_eq]

end Sys2Proof.Machine
end

section
/-! O57: the picture (R420 to R425). The colour in numbers, the cell `PixelOut()` writes, and that a PPU step makes it on
the state its actions leave. -/

namespace Sys2Proof.Machine

open Sys2Proof.Claim

/-! ### The colour in numbers -/

/-- A shifter shows bit `15 - fine_x` (R420). -/
theorem shifterBit_toNat (p : Ppu) (w : Word) : (shifterBit p.fineX w).toNat = shownBit p w := by
  have hmask : ∀ x : BitVec 3, 0x8000#16 >>> x.toNat = BitVec.twoPow 16 (15 - x.toNat) := by decide
  have hbit : BitVec.twoPow 16 (15 - p.fineX.toNat) ≠ 0x0000#16 := by
    generalize p.fineX = x
    revert x
    decide
  unfold shifterBit shownBit bit
  rw [hmask, BitVec.and_twoPow]
  cases w.getLsbD (15 - p.fineX.toNat) <;> simp [hbit]

/-- The pixel inside the picture (R420, R421). -/
theorem pixelValue_eq {p : Ppu} (h : inPicture p) : pixelValue p = pixelOf p := by
  obtain ⟨-, -, hcol, -⟩ := h
  have hleft : p.renderBackgroundLeft = false ↔ p.mask.toNat / 2 % 2 = 0 := by
    rw [Ppu.renderBackgroundLeft, getLsbD_eq_decide, decide_eq_false_iff_not]
    omega
  unfold pixelValue pixelOf twoBits
  simp only [hleft, renderBackground_iff, shifterBit_toNat, hcol, true_and]
  by_cases hon : p.mask.toNat / 8 % 2 = 1
  · rw [if_pos hon]
    exact if_congr (by omega) rfl rfl
  · rw [if_neg hon, if_pos (Or.inl (by omega)), ite_self]

/-- A pixel that is not transparent comes of an enabled background, which gives its palette number (R420). -/
theorem pixelPalette_eq {p : Ppu} (h : pixelOf p ≠ 0) :
    pixelPalette p = 2 * shownBit p p.bgShifterAttribHi + shownBit p p.bgShifterAttribLo := by
  have hon : p.renderBackground = true := by
    rw [renderBackground_iff]
    by_contra hoff
    exact h (if_pos (.inl (by omega)))
  rw [pixelPalette, if_pos hon, twoBits, shifterBit_toNat, shifterBit_toNat]

theorem shownBit_lt (p : Ppu) (w : Word) : shownBit p w < 2 := by
  unfold shownBit bit
  split <;> decide

theorem pixelOf_lt (p : Ppu) : pixelOf p < 4 := by
  have hhi := shownBit_lt p p.bgShifterPatternHi
  have hlo := shownBit_lt p p.bgShifterPatternLo
  unfold pixelOf
  split <;> omega

/-- A palette read at entry `n` of the background palettes: below 0x10 there is no fold (R95). -/
theorem ppuRead_background {n : Nat} (h : n < 16) (s : State) :
    ppuRead (BitVec.ofNat 14 (0x3F00 + n)) s =
      Memory.read s.ppu.palette n &&& (if s.ppu.mask.toNat % 2 = 1 then 0x30#8 else 0x3F#8) := by
  have haddr : (BitVec.ofNat 14 (0x3F00 + n)).toNat = 0x3F00 + n := by
    rw [BitVec.toNat_ofNat]
    omega
  have hindex : paletteByte (BitVec.ofNat 14 (0x3F00 + n)) = n := by
    unfold paletteByte
    rw [haddr, if_neg (by omega)]
    omega
  rw [ppuRead_palette s (by rw [haddr]; omega), paletteRead, paletteIndex_eq, hindex]
  simp only [Ppu.grayscale, getLsbD_eq_decide, decide_eq_true_eq, Nat.pow_zero, Nat.div_one]

/-- The colour inside the picture (R420 to R423). -/
theorem pixelColour_eq {s : State} (h : inPicture s.ppu) : pixelColour s = colourOf s.ppu := by
  unfold pixelColour colourAddress colourOf
  rw [pixelValue_eq h]
  dsimp only
  by_cases hzero : pixelOf s.ppu = 0
  · rw [if_pos hzero, if_pos hzero]
    exact congrArg (BitVec.setWidth 6) (ppuRead_background (n := 0) (by decide) s)
  · have hhi := shownBit_lt s.ppu s.ppu.bgShifterAttribHi
    have hlo := shownBit_lt s.ppu s.ppu.bgShifterAttribLo
    have hpix := pixelOf_lt s.ppu
    rw [if_neg hzero, if_neg hzero, pixelPalette_eq hzero, Nat.add_assoc, ppuRead_background (by omega)]

/-! ### The cell of the pixel step (R425) -/

theorem pixelOut_inside {s : State} (h : inPicture s.ppu) : pixelOut s = writePixel s := if_pos h

theorem pixelOut_outside {s : State} (h : ¬ inPicture s.ppu) : pixelOut s = s := if_neg h

/-- Inside the picture the pixel step writes the one cell of its position. -/
theorem pixelOut_read {s : State} (h : inPicture s.ppu) (x y : Nat) :
    Picture.read (pixelOut s).ppu.frame x y =
      if x + 1 = s.ppu.cycle ∧ (y : Int) = s.ppu.scanline then colourOf s.ppu else Picture.read s.ppu.frame x y := by
  have ⟨hlow, _, hcol, _⟩ := h
  rw [pixelOut_inside h, ← pixelColour_eq h]
  show Picture.read (Picture.write _ _ _ _) x y = _
  rw [Picture.read_write]
  exact if_congr (by omega) rfl rfl

/-! ### The pixel of a PPU step -/

/-- What the pixel reads of the PPU, but for its own position, the step keeps after it. -/
theorem colourOf_ppuClock (s : State) :
    colourOf (rasterActions (skipOddFrame s)).ppu = colourOf { (ppuClock s).ppu with cycle := (afterSkip s).cycle } := by
  have hcycle : (rasterActions (skipOddFrame s)).ppu.cycle = (afterSkip s).cycle := by
    rw [rasterActions_only, skipOddFrame_ppu]
  rw [ppuClock_actions, ← hcycle]
  rfl

/-- Settles O57. -/
theorem pixelOutput : Obligations.PixelOutput := by
  intro s
  have honly := rasterActions_only (skipOddFrame s)
  have hcycle : (rasterActions (skipOddFrame s)).ppu.cycle = (afterSkip s).cycle := by
    rw [honly, skipOddFrame_ppu]
  have hline : (rasterActions (skipOddFrame s)).ppu.scanline = (afterSkip s).scanline := by
    rw [honly, skipOddFrame_ppu]
  have hframe : (rasterActions (skipOddFrame s)).ppu.frame = s.ppu.frame := by
    rw [honly, skipOddFrame_ppu]
    rfl
  have hinside : inPicture (rasterActions (skipOddFrame s)).ppu ↔ inPicture (afterSkip s) := by
    unfold inPicture
    rw [hcycle, hline]
  refine ⟨pixelOut_read, pixelOut_outside, pixelOut_only s, ?_, fun hin x y => ?_, fun hout => ?_⟩
  · rw [ppuClock_frame, skipOddFrame_eq]
  · refine (congrArg (fun m => Picture.read m x y) (ppuClock_frame s)).trans ?_
    rw [pixelOut_read (hinside.mpr hin), hcycle, hline, hframe, colourOf_ppuClock]
  · rw [ppuClock_frame, pixelOut_outside (hinside.not.mpr hout), hframe]

end Sys2Proof.Machine
end

section
/-! O59 and O60: OAM DMA (R460 to R464). `dmaStep` as an equation per state of the engine; then, for a page of memory and
with NMI disabled, the ticks of one DMA step as a `QuietRun`, and the transfer as an induction over the bytes copied. -/

namespace Sys2Proof.Machine

open Sys2Proof.Claim

/-! ### The engine's step (R462) -/

/-- The register 0x4014 (R461). -/
theorem memWrite_dma (d : Byte) (s : State) : memWrite 0x4014#16 d s = dmaStart d s := by
  unfold memWrite
  rw [cartCpuWrite_low (by decide)]
  rfl

theorem dmaStep_wait {s : State} (hdummy : s.bus.dmaDummy = true) :
    dmaStep s = { s with bus := { s.bus with dmaDummy := decide (s.bus.tick % 2 = 0) } } := by
  rw [dmaStep, if_pos hdummy]
  rcases Nat.mod_two_eq_zero_or_one s.bus.tick with h | h
  · rw [h, if_neg (by decide), decide_eq_true rfl, ← hdummy]
  · rw [h, if_pos rfl]
    rfl

theorem dmaStep_read {s : State} (hdummy : s.bus.dmaDummy = false) (heven : s.bus.tick % 2 = 0) :
    dmaStep s =
      { (memRead (s.bus.dmaPage ++ s.bus.dmaAddr) s).2 with
        bus :=
          { (memRead (s.bus.dmaPage ++ s.bus.dmaAddr) s).2.bus with
            dmaData := (memRead (s.bus.dmaPage ++ s.bus.dmaAddr) s).1 } } := by
  rw [dmaStep, if_neg (ne_true_of_eq_false hdummy), if_pos heven]
  rfl

theorem dmaStep_write {s : State} (hdummy : s.bus.dmaDummy = false) (hodd : s.bus.tick % 2 = 1) :
    dmaStep s =
      { s with
        ppu := { s.ppu with oam := Memory.write s.ppu.oam s.bus.dmaAddr.toNat s.bus.dmaData }
        bus :=
          { s.bus with
            dmaAddr := s.bus.dmaAddr + 1#8
            dmaTransfer := if decide (s.bus.dmaAddr = 0xFF#8) then false else s.bus.dmaTransfer
            dmaDummy := decide (s.bus.dmaAddr = 0xFF#8) } } := by
  have hlast : decide (s.bus.dmaAddr + 1#8 = 0x00#8) = decide (s.bus.dmaAddr = 0xFF#8) :=
    decide_eq_decide.mpr (by bv_omega)
  have htransfer : ∀ running last : Bool, (running && !last) = if last then false else running := by decide
  rw [dmaStep, if_neg (ne_true_of_eq_false hdummy), if_neg (by omega), dmaWrite]
  dsimp only
  rw [hlast, hdummy, Bool.false_or, htransfer]

/-- Settles O59. -/
theorem dmaStepByStep : Obligations.DmaStepByStep := fun s d =>
  ⟨memWrite_dma d s, dmaStep_wait, dmaStep_read, dmaStep_write⟩

/-! ### A page of memory -/

/-- A page is all memory or none of it. -/
theorem isMemory_page {page k : Byte} (h : isMemory (page ++ 0x00#8) = true) : isMemory (page ++ k) = true := by
  have hk := k.isLt
  have haddr (b : Byte) : (page ++ b).toNat = 2 ^ 8 * page.toNat + b.toNat := by
    rw [BitVec.toNat_append, Nat.shiftLeft_eq, Nat.mul_comm, Nat.two_pow_add_eq_or_of_lt b.isLt]
  have hzero : (0x00#8).toNat = 0 := rfl
  simp only [isMemory, haddr, hzero, Bool.or_eq_true, decide_eq_true_eq] at h ⊢
  omega

/-- The engine's source is a byte of memory. -/
def SourceInMemory (b : Bus) : Prop := isMemory (b.dmaPage ++ b.dmaAddr) = true

/-- From memory the read has no side effect. -/
theorem dmaStep_readMemory {s : State} (hm : SourceInMemory s.bus) (hdummy : s.bus.dmaDummy = false)
    (heven : s.bus.tick % 2 = 0) :
    dmaStep s = { s with bus := { s.bus with dmaData := peek (s.bus.dmaPage ++ s.bus.dmaAddr) s } } := by
  rw [dmaStep_read hdummy heven, memRead_memory s hm]

/-- From memory the engine sees the bus, the cartridge and OAM, and changes the bus and OAM. -/
theorem dmaStep_memory_congr {s t : State} (hm : SourceInMemory s.bus) (hb : t.bus = s.bus) (hc : t.cart = s.cart)
    (ho : t.ppu.oam = s.ppu.oam) :
    dmaStep t = { t with bus := (dmaStep s).bus, ppu := { t.ppu with oam := (dmaStep s).ppu.oam } } := by
  by_cases hdummy : s.bus.dmaDummy = true
  · rw [dmaStep_wait hdummy, dmaStep_wait (hb ▸ hdummy), hb, ← ho]
  have hdummy := eq_false_of_ne_true hdummy
  by_cases heven : s.bus.tick % 2 = 0
  · rw [dmaStep_readMemory hm hdummy heven, dmaStep_readMemory (hb ▸ hm) (hb ▸ hdummy) (hb ▸ heven), hb,
      peek_memory_congr hm (by rw [hb]) hc, ← ho]
  · rw [dmaStep_write hdummy (by omega), dmaStep_write (hb ▸ hdummy) (by rw [hb]; omega), hb, ho]

/-! ### Ticks without an interrupt -/

/-- A cartridge is inserted and no NMI is pending or will be requested. -/
structure Quiet (s : State) : Prop where
  cart : s.cart ≠ none
  disabled : s.ppu.enableNmi = false
  noNmi : s.ppu.nmi = false

/-- `n` ticks from `s` reach `t` without an interrupt, and the CPU, the cartridge and the parameters are as they were. -/
structure QuietRun (n : Nat) (s t : State) : Prop where
  run : Host.Core.run Sys2Proof.core n s = .next t
  quiet : Quiet t
  cpu : t.cpu = s.cpu
  cart : t.cart = s.cart
  config : t.config = s.config

theorem run_add {M : Host.Core} {m n : Nat} {s u t : M.State} (h : M.run m s = .next u) (h' : M.run n u = .next t) :
    M.run (m + n) s = .next t := by
  induction m generalizing s with
  | zero =>
    obtain rfl : s = u := Host.Outcome.next.inj h
    rwa [Nat.zero_add]
  | succ m ih =>
    obtain ⟨v, hv, hrun⟩ := (run_succ_eq_next M m s u).mp h
    rw [Nat.succ_add]
    exact (run_succ_eq_next M (m + n) s t).mpr ⟨v, hv, ih hrun⟩

theorem QuietRun.trans {m n : Nat} {s u t : State} (h : QuietRun m s u) (h' : QuietRun n u t) : QuietRun (m + n) s t :=
  ⟨run_add h.run h'.run, h'.quiet, h'.cpu.trans h.cpu, h'.cart.trans h.cart, h'.config.trans h.config⟩

/-- A PPU step requests no NMI while it is disabled (R416). -/
theorem Quiet.ppuClock {s : State} (h : Quiet s) : Quiet (ppuClock s) := by
  obtain ⟨-, hnmi⟩ := rasterActions_flags (skipOddFrame s)
  have hdisabled : (afterSkip s).enableNmi = false := h.disabled
  rw [skipOddFrame_ppu, hdisabled, Bool.and_false, Bool.or_false] at hnmi
  refine ⟨?_, ?_, ?_⟩
  · rw [ppuClock_cart]
    exact h.cart
  · rw [ppuClock_only]
    exact h.disabled
  · rw [ppuClock_actions]
    exact hnmi.trans h.noNmi

/-- A quiet tick whose part after the PPU's step changes the bus and OAM alone. -/
theorem quietRun_one {s : State} {b : Bus} {oam : Memory} (hq : Quiet s)
    (h : clockCpuOrDma (ppuClock s) =
      .next { ppuClock s with bus := b, ppu := { (ppuClock s).ppu with oam := oam } }) :
    ∃ t, QuietRun 1 s t ∧ t.bus = { b with tick := b.tick + 1 } ∧ t.ppu.oam = oam := by
  obtain ⟨hcart, hdisabled, hnmi⟩ := hq.ppuClock
  have hstep := step_eq hq.cart
  rw [h, Result.andThen_next,
    endTick_quiet (s := { ppuClock s with bus := b, ppu := { (ppuClock s).ppu with oam := oam } }) hnmi] at hstep
  have hrun := (run_succ_eq_next Sys2Proof.core 0 s _).mpr ⟨_, hstep, rfl⟩
  exact ⟨_, ⟨hrun, ⟨hcart, hdisabled, hnmi⟩, ppuClock_cpu s, ppuClock_cart s, ppuClock_config s⟩, rfl, rfl⟩

/-- A tick in which the engine steps (R460). -/
theorem quietRun_dma {s : State} (hq : Quiet s) (ht : s.bus.dmaTransfer = true) (hm : SourceInMemory s.bus)
    (hslot : s.config.dmaTickMode = .everyTick ∨ s.bus.tick % 3 = 0) :
    ∃ t, QuietRun 1 s t ∧ t.bus = { (dmaStep s).bus with tick := s.bus.tick + 1 } ∧
      t.ppu.oam = (dmaStep s).ppu.oam := by
  have hoam : (ppuClock s).ppu.oam = s.ppu.oam := by rw [ppuClock_only]
  rw [← dmaStep_tick s]
  refine quietRun_one hq ?_
  rw [clockCpuOrDma_dma (by rw [ppuClock_bus]; exact ht) (by rw [ppuClock_bus, ppuClock_config]; exact hslot)]
  exact congrArg Host.Outcome.next (dmaStep_memory_congr hm (ppuClock_bus s) (ppuClock_cart s) hoam)

/-- A tick between the engine's slots (R460). -/
theorem quietRun_idle {s : State} (hq : Quiet s) (hmode : s.config.dmaTickMode = .cpuSlot) (hslot : s.bus.tick % 3 ≠ 0) :
    ∃ t, QuietRun 1 s t ∧ t.bus = { s.bus with tick := s.bus.tick + 1 } ∧ t.ppu.oam = s.ppu.oam := by
  have hoam : (ppuClock s).ppu.oam = s.ppu.oam := by rw [ppuClock_only]
  refine quietRun_one hq ?_
  rw [clockCpuOrDma_idle (by rw [ppuClock_bus]; exact hslot) (.inr (by rw [ppuClock_config]; exact hmode)), ← hoam,
    ← ppuClock_bus]

/-! ### One step of the engine with the ticks it takes -/

/-- The engine steps in the next tick (R460). -/
def AtDmaSlot (s : State) : Prop := s.config.dmaTickMode = .cpuSlot → s.bus.tick % 3 = 0

/-- One DMA step: its tick, and in the CPU's slots the two ticks to the next slot. -/
theorem quietRun_dmaStep {s : State} (hq : Quiet s) (ht : s.bus.dmaTransfer = true) (hm : SourceInMemory s.bus)
    (hslot : AtDmaSlot s) :
    ∃ t, QuietRun (dmaStepTicks s) s t ∧ t.bus = { (dmaStep s).bus with tick := s.bus.tick + dmaStepTicks s } ∧
      t.ppu.oam = (dmaStep s).ppu.oam := by
  unfold dmaStepTicks
  cases hmode : s.config.dmaTickMode with
  | everyTick => exact quietRun_dma hq ht hm (.inl hmode)
  | cpuSlot =>
    have hzero : s.bus.tick % 3 = 0 := hslot hmode
    obtain ⟨t, hrun, hbus, hoam⟩ := quietRun_dma hq ht hm (.inr hzero)
    obtain ⟨u, hrunu, hbusu, hoamu⟩ := quietRun_idle hrun.quiet (by rw [hrun.config, hmode])
      (by rw [hbus]; dsimp only; omega)
    have hrun2 := hrun.trans hrunu
    obtain ⟨v, hrunv, hbusv, hoamv⟩ := quietRun_idle hrun2.quiet (by rw [hrun2.config, hmode])
      (by rw [hbusu, hbus]; dsimp only; omega)
    refine ⟨v, hrun2.trans hrunv, ?_, by rw [hoamv, hoamu, hoam]⟩
    rw [hbusv, hbusu, hbus]
    rfl

/-! ### The transfer -/

/-- A page of memory reads the same along a run that keeps RAM and the cartridge. -/
theorem QuietRun.peek {n : Nat} {s t : State} (h : QuietRun n s t) (hram : t.bus.ram = s.bus.ram) {a : Word}
    (ha : isMemory a = true) : peek a t = peek a s := peek_memory_congr ha hram h.cart

theorem dmaStepTicks_congr {s t : State} (h : t.config = s.config) : dmaStepTicks t = dmaStepTicks s := by
  rw [dmaStepTicks, dmaStepTicks, h]

/-- Every DMA step ends at the engine's next slot. -/
theorem AtDmaSlot.after {s t : State} (h : AtDmaSlot s) {n : Nat} (hconfig : t.config = s.config)
    (htick : t.bus.tick = s.bus.tick + dmaStepTicks s * n) : AtDmaSlot t := by
  intro hmode
  rw [hconfig] at hmode
  have hslot := h hmode
  have hticks : dmaStepTicks s = 3 := by rw [dmaStepTicks, hmode]
  rw [htick, hticks]
  omega

/-- A DMA step takes an odd number of ticks, so the parity of the tick changes with every step. -/
theorem tick_parity (s : State) (n : Nat) : (s.bus.tick + dmaStepTicks s * n) % 2 = (s.bus.tick + n) % 2 := by
  have hticks : dmaStepTicks s = 3 ∨ dmaStepTicks s = 1 := by
    unfold dmaStepTicks
    cases s.config.dmaTickMode with
    | cpuSlot => exact .inl rfl
    | everyTick => exact .inr rfl
  rcases hticks with hticks | hticks <;> rw [hticks] <;> omega

theorem tick_succ (s : State) (n : Nat) :
    s.bus.tick + dmaStepTicks s * n + dmaStepTicks s = s.bus.tick + dmaStepTicks s * (n + 1) := by
  rw [Nat.mul_succ, Nat.add_assoc]

/-- The engine before a read, in the slot of an even tick: a transfer of a page of memory is past its alignment. -/
structure Aligned (s : State) : Prop where
  quiet : Quiet s
  slot : AtDmaSlot s
  page : isMemory (s.bus.dmaPage ++ 0x00#8) = true
  even : s.bus.tick % 2 = 0
  start : s.bus.dmaAddr = 0x00#8
  dummy : s.bus.dmaDummy = false
  transfer : s.bus.dmaTransfer = true

/-- The byte the engine holds after `k` bytes of the page of `s`. -/
def copiedByte (s : State) (k : Nat) : Byte :=
  if k = 0 then s.bus.dmaData else peek (s.bus.dmaPage ++ BitVec.ofNat 8 (k - 1)) s

/-- The bus after `k` bytes copied from the aligned state `s`. -/
def copiedBus (s : State) (k : Nat) : Bus :=
  { s.bus with
    tick := s.bus.tick + dmaStepTicks s * (2 * k)
    dmaAddr := BitVec.ofNat 8 k
    dmaData := copiedByte s k
    dmaDummy := decide (k = 256)
    dmaTransfer := decide (k < 256) }

/-- `t` is the state after `k` bytes copied from the aligned state `s`. -/
structure Copied (s : State) (k : Nat) (t : State) : Prop where
  run : QuietRun (dmaStepTicks s * (2 * k)) s t
  bus : t.bus = copiedBus s k
  oam : ∀ j, j < k → Memory.read t.ppu.oam j = peek (s.bus.dmaPage ++ BitVec.ofNat 8 j) s

theorem Copied.zero {s : State} (h : Aligned s) : Copied s 0 s := by
  refine ⟨⟨rfl, h.quiet, rfl, rfl, rfl⟩, ?_, fun j hj => absurd hj (Nat.not_lt_zero j)⟩
  unfold copiedBus copiedByte
  rw [if_pos rfl, ← h.start, decide_eq_false (by decide), decide_eq_true (by decide), ← h.dummy, ← h.transfer]
  rfl

theorem copiedByte_succ (s : State) (k : Nat) :
    copiedByte s (k + 1) = peek (s.bus.dmaPage ++ BitVec.ofNat 8 k) s := by
  rw [copiedByte, if_neg (Nat.succ_ne_zero k), Nat.add_sub_cancel]

/-- The cursor `k` is the last one exactly when `k + 1` bytes are the page (R462). -/
theorem cursor_last_iff {k : Nat} (hk : k < 256) : BitVec.ofNat 8 k = 0xFF#8 ↔ k + 1 = 256 := by
  rw [← BitVec.toNat_inj, BitVec.toNat_ofNat, Nat.mod_eq_of_lt hk]
  show k = 255 ↔ _
  omega

/-- The read of byte `k`. -/
theorem Copied.read {s t : State} {k : Nat} (hs : Aligned s) (hk : k < 256) (h : Copied s k t) :
    ∃ u, QuietRun (dmaStepTicks s * (2 * k + 1)) s u ∧
      u.bus =
        { copiedBus s k with tick := s.bus.tick + dmaStepTicks s * (2 * k + 1), dmaData := copiedByte s (k + 1) } ∧
      u.ppu.oam = t.ppu.oam := by
  obtain ⟨hrun, hbus, -⟩ := h
  have hm : SourceInMemory t.bus := by
    rw [hbus]
    exact isMemory_page hs.page
  have hdummy : t.bus.dmaDummy = false := by
    rw [hbus]
    exact decide_eq_false (by omega)
  have heven : t.bus.tick % 2 = 0 := by
    have heven := hs.even
    rw [hbus, copiedBus, tick_parity]
    omega
  have hbyte : peek (t.bus.dmaPage ++ t.bus.dmaAddr) t = copiedByte s (k + 1) := by
    rw [hrun.peek (by rw [hbus]; rfl) hm, copiedByte_succ, hbus]
    rfl
  have hticks := dmaStepTicks_congr hrun.config
  obtain ⟨u, hrunu, hbusu, hoamu⟩ := quietRun_dmaStep hrun.quiet (by rw [hbus]; exact decide_eq_true hk) hm
    (hs.slot.after hrun.config (by rw [hbus]; rfl))
  rw [dmaStep_readMemory hm hdummy heven] at hbusu hoamu
  rw [hticks] at hrunu
  refine ⟨u, hrun.trans hrunu, ?_, hoamu⟩
  rw [hbusu, hbyte, hticks, hbus, ← tick_succ]
  rfl

/-- One byte more: its read and its write. -/
theorem Copied.succ {s t : State} {k : Nat} (hs : Aligned s) (hk : k < 256) (h : Copied s k t) :
    ∃ u, Copied s (k + 1) u := by
  obtain ⟨u, hrun, hbus, hoam⟩ := h.read hs hk
  have hm : SourceInMemory u.bus := by
    rw [hbus]
    exact isMemory_page hs.page
  have hdummy : u.bus.dmaDummy = false := by
    rw [hbus]
    exact decide_eq_false (by omega)
  have hodd : u.bus.tick % 2 = 1 := by
    have heven := hs.even
    rw [hbus, tick_parity]
    omega
  have hticks := dmaStepTicks_congr hrun.config
  have hcursor : u.bus.dmaAddr = BitVec.ofNat 8 k := by
    rw [hbus]
    rfl
  obtain ⟨v, hrunv, hbusv, hoamv⟩ := quietRun_dmaStep hrun.quiet (by rw [hbus]; exact decide_eq_true hk) hm
    (hs.slot.after hrun.config (by rw [hbus]))
  rw [dmaStep_write hdummy hodd, hticks] at hbusv
  rw [dmaStep_write hdummy hodd] at hoamv
  rw [hticks] at hrunv
  refine ⟨v, hrun.trans hrunv, ?_, fun j hj => ?_⟩
  · have hlast : decide (BitVec.ofNat 8 k = 0xFF#8) = decide (k + 1 = 256) :=
      decide_eq_decide.mpr (cursor_last_iff hk)
    have htransfer : (if decide (k + 1 = 256) then false else decide (k < 256)) = decide (k + 1 < 256) := by
      rw [decide_eq_true hk]
      by_cases h256 : k + 1 = 256
      · rw [decide_eq_true h256, if_pos rfl, decide_eq_false (by omega)]
      · rw [decide_eq_false h256, if_neg (by decide), decide_eq_true (by omega)]
    rw [hbusv, hcursor, hlast, ← BitVec.ofNat_add]
    simp only [hbus, copiedBus, htransfer, tick_succ]
    rfl
  · have hindex : (BitVec.ofNat 8 k).toNat = k := by
      rw [BitVec.toNat_ofNat, Nat.mod_eq_of_lt hk]
    rw [hoamv]
    dsimp only
    rw [Memory.read_write, hcursor, hindex, hoam]
    by_cases hjk : j = k
    · rw [if_pos hjk, hbus, hjk, ← copiedByte_succ]
    · rw [if_neg hjk, h.oam j (by omega)]

/-- All 256 bytes, by induction over the bytes copied. -/
theorem Aligned.copied {s : State} (hs : Aligned s) {k : Nat} (hk : k ≤ 256) : ∃ t, Copied s k t := by
  induction k with
  | zero => exact ⟨s, .zero hs⟩
  | succ k ih =>
    obtain ⟨t, ht⟩ := ih (by omega)
    exact ht.succ hs (by omega)

/-! ### The alignment (R462, R463) -/

/-- The DMA steps the engine waits: one from an odd tick, two from an even one. -/
def waitSteps (s : State) : Nat := if s.bus.tick % 2 = 1 then 1 else 2

/-- `s` is at the first step of a transfer of a page of memory. -/
structure Waiting (s : State) : Prop where
  quiet : Quiet s
  slot : AtDmaSlot s
  page : isMemory (s.bus.dmaPage ++ 0x00#8) = true
  start : s.bus.dmaAddr = 0x00#8
  dummy : s.bus.dmaDummy = true
  transfer : s.bus.dmaTransfer = true

theorem isMemory_start {b : Bus} (hpage : isMemory (b.dmaPage ++ 0x00#8) = true) (hstart : b.dmaAddr = 0x00#8) :
    SourceInMemory b := by
  rw [SourceInMemory, hstart]
  exact hpage

/-- One step of waiting, which ends the wait in an odd tick. -/
theorem Waiting.step {s : State} (h : Waiting s) :
    ∃ t, QuietRun (dmaStepTicks s) s t ∧
      t.bus = { s.bus with tick := s.bus.tick + dmaStepTicks s, dmaDummy := decide (s.bus.tick % 2 = 0) } := by
  obtain ⟨t, hrun, hbus, -⟩ := quietRun_dmaStep h.quiet h.transfer (isMemory_start h.page h.start) h.slot
  rw [dmaStep_wait h.dummy] at hbus
  exact ⟨t, hrun, hbus⟩

/-- An odd tick ends the wait. -/
theorem Waiting.align_odd {s : State} (h : Waiting s) (hodd : s.bus.tick % 2 = 1) :
    ∃ t, QuietRun (dmaStepTicks s) s t ∧
      t.bus = { s.bus with tick := s.bus.tick + dmaStepTicks s, dmaDummy := false } := by
  obtain ⟨t, hrun, hbus⟩ := h.step
  rw [hodd] at hbus
  exact ⟨t, hrun, hbus⟩

/-- An even tick leaves the engine waiting, for an odd one. -/
theorem Waiting.step_even {s : State} (h : Waiting s) (heven : s.bus.tick % 2 = 0) :
    ∃ t, QuietRun (dmaStepTicks s) s t ∧ Waiting t ∧ t.bus.tick % 2 = 1 ∧
      t.bus = { s.bus with tick := s.bus.tick + dmaStepTicks s } := by
  obtain ⟨t, hrun, hbus⟩ := h.step
  rw [heven, decide_eq_true rfl, ← h.dummy] at hbus
  have hparity := tick_parity s 1
  rw [Nat.mul_one] at hparity
  have hslot : AtDmaSlot t := h.slot.after hrun.config (n := 1) (by rw [hbus, Nat.mul_one])
  refine ⟨t, hrun, ⟨hrun.quiet, hslot, ?_, ?_, ?_, ?_⟩, ?_, hbus⟩ <;> rw [hbus]
  · exact h.page
  · exact h.start
  · exact h.dummy
  · exact h.transfer
  · dsimp only
    omega

/-- The whole wait. -/
theorem Waiting.align {s : State} (h : Waiting s) :
    ∃ t, QuietRun (dmaStepTicks s * waitSteps s) s t ∧
      t.bus = { s.bus with tick := s.bus.tick + dmaStepTicks s * waitSteps s, dmaDummy := false } := by
  unfold waitSteps
  by_cases hodd : s.bus.tick % 2 = 1
  · rw [if_pos hodd, Nat.mul_one]
    exact h.align_odd hodd
  · rw [if_neg hodd, Nat.mul_two]
    obtain ⟨t, hrun, ht, hodd, hbus⟩ := h.step_even (by omega)
    obtain ⟨u, hrunu, hbusu⟩ := ht.align_odd hodd
    rw [dmaStepTicks_congr hrun.config] at hrunu hbusu
    refine ⟨u, hrun.trans hrunu, ?_⟩
    rw [hbusu, hbus, ← Nat.add_assoc]

/-- After the wait the tick is even. -/
theorem waitSteps_parity (s : State) : (s.bus.tick + waitSteps s) % 2 = 0 := by
  unfold waitSteps
  split <;> omega

/-- The state after the wait is aligned. -/
theorem Waiting.aligned {s t : State} (h : Waiting s) (hrun : QuietRun (dmaStepTicks s * waitSteps s) s t)
    (hbus : t.bus = { s.bus with tick := s.bus.tick + dmaStepTicks s * waitSteps s, dmaDummy := false }) : Aligned t := by
  refine ⟨hrun.quiet, h.slot.after hrun.config (by rw [hbus]), ?_, ?_, ?_, ?_, ?_⟩ <;> rw [hbus]
  · exact h.page
  · dsimp only
    rw [tick_parity, waitSteps_parity]
  · exact h.start
  · exact h.transfer

/-- The steps of a whole transfer (R463). -/
theorem waitSteps_add (s : State) : waitSteps s + 2 * 256 = if s.bus.tick % 2 = 1 then 513 else 514 := by
  unfold waitSteps
  split <;> rfl

/-- Settles O60: the wait, then the 256 bytes. -/
theorem dmaCopiesPageToOam : Obligations.DmaCopiesPageToOam := by
  intro s hcart hdisabled hnmi htransfer hdummy hstart hpage hslot
  have hwait : Waiting s :=
    ⟨⟨Option.isSome_iff_ne_none.mp hcart, hdisabled, hnmi⟩, hslot, hpage, hstart, hdummy, htransfer⟩
  obtain ⟨u, hrun, hbus⟩ := hwait.align
  have haligned := hwait.aligned hrun hbus
  obtain ⟨t, hrunt, hbust, hoam⟩ := haligned.copied (Nat.le_refl 256)
  have hticks := dmaStepTicks_congr hrun.config
  have hpeek (k : Byte) : peek (u.bus.dmaPage ++ k) u = peek (s.bus.dmaPage ++ k) s := by
    rw [hrun.peek (by rw [hbus]) (isMemory_page haligned.page), hbus]
  have hall := hrun.trans hrunt
  rw [hticks, ← Nat.mul_add, waitSteps_add] at hall
  refine ⟨t, hall.run, fun k => ?_, ?_, hall.cpu, hall.cart, hall.config⟩
  · rw [hoam k.toNat k.isLt, BitVec.ofNat_toNat, BitVec.setWidth_eq, hpeek]
  · have hbyte : copiedByte u 256 = peek (s.bus.dmaPage ++ 0xFF#8) s := hpeek 0xFF#8
    have hcursor : BitVec.ofNat 8 256 = s.bus.dmaAddr := hstart.symm
    have hended : decide (256 = 256) = s.bus.dmaDummy := hdummy.symm
    rw [hbust, copiedBus, hbyte, hticks, hbus, ← waitSteps_add, Nat.mul_add, ← Nat.add_assoc, hcursor, hended]
    rfl

end Sys2Proof.Machine
end

section
/-! O35, O36, O39 and O40: the system reset (R480, R482, R483) and the operations of the host (R470). -/

namespace Sys2Proof.Machine

open Sys2Proof.Claim

/-! ### The host's operations -/

/-- The reset writes registers: every memory is the one it was (R480). -/
theorem systemReset_ok {s t : State} (h : s.memoriesOk = true) (ht : systemReset s = .next t) : t.memoriesOk = true := by
  by_cases hc : s.cart = none
  · rw [systemReset, hc] at ht
    cases ht
  · rw [systemReset_spec hc, resetCpu_spec] at ht
    cases ht
    exact h

/-- An inserted cartridge is sound, and nothing else changes (R84, R470). -/
theorem insertCartridge_ok {image : List Byte} {s t : State} (h : s.memoriesOk = true)
    (ht : insertCartridge image s = .next t) : t.memoriesOk = true := by
  obtain ⟨hram, hppu, -⟩ := memoriesOk_parts.mp h
  unfold insertCartridge at ht
  split at ht
  · next c hload =>
    cases ht
    exact memoriesOk_parts.mpr ⟨hram, hppu, loadImage_ok hload⟩
  · cases ht

/-- A tick, by the induction over what it does. -/
theorem step_ok {s t : State} (h : s.memoriesOk = true) (ht : step s = .next t) : t.memoriesOk = true :=
  memoriesOk_busInvariant.step (fun _ => ppuClock_ok) (fun _ => dmaStep_ok) (fun _ h => h) (fun _ _ h => h) h ht

/-- Settles O36, one operation of the host at a time. -/
theorem hostOperationsKeepMemories : Obligations.HostOperationsKeepMemories := by
  intro op s t hs ht
  cases op with
  | systemClock => exact step_ok hs ht
  | reset => exact systemReset_ok hs ht
  | insertCartridge image => exact insertCartridge_ok hs ht
  | memRead a => cases ht; exact memRead_ok a hs
  | memWrite a v => cases ht; exact memWrite_ok a v hs
  | irq => cases ht; exact memoriesOk_busInvariant.irq hs
  | setController c b => cases ht; cases c <;> exact hs
  | peek | complete | frameComplete | frame | clearFrameComplete => cases ht; exact hs

/-! ### Reset -/

/-- Settles O39, by the equations of the reset cascade. -/
theorem systemResetValues : Obligations.SystemResetValues := by
  intro s
  refine ⟨fun hc => ?_, fun hc => ?_⟩
  · rw [systemReset, hc]
  · refine ⟨_, systemReset_spec hc, ?_⟩
    rw [resetCpu_spec]
    exact ⟨rfl, rfl, rfl, rfl, rfl⟩

/-- Settles O35: its memories are empty, the raster is at (-1, 0) and the engine is at rest. -/
theorem resetStateMeetsInvariant : Obligations.ResetStateMeetsInvariant :=
  inv_iff.mpr ⟨reset_memoriesOk, rfl, rfl, rfl, ⟨rfl, nofun, rfl, Nat.le_refl 8⟩⟩

/-- Settles O40: every register has the reset's value already, and the blank cartridge's vector reads 0x0000. -/
theorem resetStateIsReset : Obligations.ResetStateIsReset := by
  have hcart : State.reset.cart ≠ none := nofun
  unfold Obligations.ResetStateIsReset
  rw [systemReset_spec hcart, resetCpu_spec]
  rfl

end Sys2Proof.Machine
end
